-- ==== Sys2Proof/Word.lean ====
section
/-! DEFINITION. The word types of the machine: port words, main-memory bytes, colours and the two pixel
formats of VRAM (`spec/20_memory.md` R90, R92, R93, `spec/00_scope.md` R16). Types only: everything computed on
them stands in files a repair can mend. -/

namespace Sys2Proof

/-- A word on either port, R10 `PORT_WIDTH`. -/
abbrev Word := BitVec 32

/-- A byte of main memory. -/
abbrev Byte := BitVec 8

/-- The 15-bit pixel format: red 4:0, green 9:5, blue 14:10, mask bit 15 (R92). -/
abbrev P15 := BitVec 16

/-- A triple of unsigned 8-bit channels (R16). -/
structure Rgb where
  r : BitVec 8
  g : BitVec 8
  b : BitVec 8
  deriving DecidableEq, Repr, Inhabited

/-- The 24-bit pixel format: the mask bit and three 8-bit channels (R93). -/
structure C24 where
  m : Bool
  r : BitVec 8
  g : BitVec 8
  b : BitVec 8
  deriving DecidableEq, Repr, Inhabited

/-- One VRAM location: what the 24-bit store and the 15-bit store hold there (R41, R91). -/
structure Pixel where
  c24 : C24
  p15 : P15
  deriving DecidableEq, Repr, Inhabited

end Sys2Proof
end

