-- ==== Sys2Proof/Config.lean ====
section
/-! DEFINITION. What the spec leaves open, as constants without a body: nothing in Lean can evaluate them, so a
claim about the machine holds whatever they are. -/

namespace Sys2Proof.Config

/-- INIT_VRAM of the 24-bit store, by pixel number `y * 1024 + x` (R10, R41; log 6). -/
opaque initVram24 : Nat → C24

/-- INIT_VRAM of the 15-bit store, unspecified independently of the other store (R99; log 6). -/
opaque initVram15 : Nat → P15

/-- What main memory holds where nothing has been written, by byte address (R90 (c); log 8). -/
opaque initRam : Nat → Byte

/-- GPUSTAT bit 13 under vertical interlace, by how often it has been drawn (R28; log 7). -/
opaque freeBit : Nat → Bool

/-- `GPU_DATA_ADDR`, an open parameter (R10, R111; log 24). -/
opaque gpuDataAddr : Word

/-- `GPU_CONTROL_ADDR`, an open parameter (R10, R111; log 24). -/
opaque gpuControlAddr : Word

end Sys2Proof.Config
end

