-- ==== Sys2Proof/Syntax.lean ====
section
/-! DEFINITION. The instruction set as syntax: one constructor per row of `spec/opcode_table.json`, each with one
bundle of operands whose fields have exactly the bits the encoding gives them (`spec/30_encoding.md` R141 to R162).
Bits the spec calls ignored (R163 (d)) are no operand. -/

namespace Sys2Proof

/-- The two command channels (R17 of `spec/00_scope.md`). -/
inductive Channel where
  | gp0
  | gp1
  deriving DecidableEq, Repr, Inhabited

/-- Vertex word `VW`, two signed 11-bit fields (R144). -/
structure Vertex where
  x : BitVec 11
  y : BitVec 11
  deriving DecidableEq, Repr, Inhabited

/-- Texture coordinate of a `TW` word (R145). -/
structure TexCoord where
  u : BitVec 8
  v : BitVec 8
  deriving DecidableEq, Repr, Inhabited

/-- CLUT attribute: column in units of 16 pixels, row (R146). -/
structure Clut where
  x : BitVec 6
  y : BitVec 9
  deriving DecidableEq, Repr, Inhabited

/-- Texture-page attribute of a polygon: column in units of 64, row in units of 256, depth code (R147). -/
structure Page where
  x : BitVec 4
  y : BitVec 1
  depth : BitVec 2
  deriving DecidableEq, Repr, Inhabited

/-- Position word `XY`, unsigned (R148). -/
structure PosXY where
  x : BitVec 16
  y : BitVec 16
  deriving DecidableEq, Repr, Inhabited

/-- Size word `WH`, unsigned (R149). -/
structure SizeWH where
  w : BitVec 16
  h : BitVec 16
  deriving DecidableEq, Repr, Inhabited

/-- Size word of a variable-size rectangle, the narrow form of `WH` (R149). -/
structure RectSize where
  w : BitVec 10
  h : BitVec 9
  deriving DecidableEq, Repr, Inhabited

/-- Operands of a flat 3-point untextured polygon, in word order (R152). -/
structure PolyF3 where
  c : Rgb
  v0 : Vertex
  v1 : Vertex
  v2 : Vertex
  deriving DecidableEq, Repr, Inhabited

/-- Operands of a flat 3-point textured polygon, in word order (R152). -/
structure PolyFT3 where
  c : Rgb
  v0 : Vertex
  t0 : TexCoord
  clut : Clut
  v1 : Vertex
  t1 : TexCoord
  page : Page
  v2 : Vertex
  t2 : TexCoord
  deriving DecidableEq, Repr, Inhabited

/-- Operands of a flat 4-point untextured polygon, in word order (R152). -/
structure PolyF4 where
  c : Rgb
  v0 : Vertex
  v1 : Vertex
  v2 : Vertex
  v3 : Vertex
  deriving DecidableEq, Repr, Inhabited

/-- Operands of a flat 4-point textured polygon, in word order (R152). -/
structure PolyFT4 where
  c : Rgb
  v0 : Vertex
  t0 : TexCoord
  clut : Clut
  v1 : Vertex
  t1 : TexCoord
  page : Page
  v2 : Vertex
  t2 : TexCoord
  v3 : Vertex
  t3 : TexCoord
  deriving DecidableEq, Repr, Inhabited

/-- Operands of a shaded 3-point untextured polygon, in word order (R152). -/
structure PolyG3 where
  c0 : Rgb
  v0 : Vertex
  c1 : Rgb
  v1 : Vertex
  c2 : Rgb
  v2 : Vertex
  deriving DecidableEq, Repr, Inhabited

/-- Operands of a shaded 3-point textured polygon, in word order (R152). -/
structure PolyGT3 where
  c0 : Rgb
  v0 : Vertex
  t0 : TexCoord
  clut : Clut
  c1 : Rgb
  v1 : Vertex
  t1 : TexCoord
  page : Page
  c2 : Rgb
  v2 : Vertex
  t2 : TexCoord
  deriving DecidableEq, Repr, Inhabited

/-- Operands of a shaded 4-point untextured polygon, in word order (R152). -/
structure PolyG4 where
  c0 : Rgb
  v0 : Vertex
  c1 : Rgb
  v1 : Vertex
  c2 : Rgb
  v2 : Vertex
  c3 : Rgb
  v3 : Vertex
  deriving DecidableEq, Repr, Inhabited

/-- Operands of a shaded 4-point textured polygon, in word order (R152). -/
structure PolyGT4 where
  c0 : Rgb
  v0 : Vertex
  t0 : TexCoord
  clut : Clut
  c1 : Rgb
  v1 : Vertex
  t1 : TexCoord
  page : Page
  c2 : Rgb
  v2 : Vertex
  t2 : TexCoord
  c3 : Rgb
  v3 : Vertex
  t3 : TexCoord
  deriving DecidableEq, Repr, Inhabited

/-- Operands of a flat line (R153, R291). -/
structure LineF where
  c : Rgb
  a : Vertex
  b : Vertex
  deriving DecidableEq, Repr, Inhabited

/-- Operands of a shaded line (R153, R291). -/
structure LineG where
  c0 : Rgb
  a : Vertex
  c1 : Rgb
  b : Vertex
  deriving DecidableEq, Repr, Inhabited

/-- Operands of a variable-size untextured rectangle (R154, R331). -/
structure RectV where
  c : Rgb
  pos : Vertex
  size : RectSize
  deriving DecidableEq, Repr, Inhabited

/-- Operands of a variable-size textured rectangle (R154, R331). -/
structure RectTV where
  c : Rgb
  pos : Vertex
  t : TexCoord
  clut : Clut
  size : RectSize
  deriving DecidableEq, Repr, Inhabited

/-- Operands of a fixed-size untextured rectangle (R154, R331). -/
structure RectS where
  c : Rgb
  pos : Vertex
  deriving DecidableEq, Repr, Inhabited

/-- Operands of a fixed-size textured rectangle (R154, R331). -/
structure RectTS where
  c : Rgb
  pos : Vertex
  t : TexCoord
  clut : Clut
  deriving DecidableEq, Repr, Inhabited

/-- Operands of the fill (R155, R432). -/
structure Fill where
  c : Rgb
  pos : PosXY
  size : SizeWH
  deriving DecidableEq, Repr, Inhabited

/-- Operands of the VRAM to VRAM copy (R155, R435). -/
structure CopyVV where
  src : PosXY
  dst : PosXY
  size : SizeWH
  deriving DecidableEq, Repr, Inhabited

/-- Operands of the CPU to VRAM and VRAM to CPU copies (R155, R440, R446). -/
structure CopyXfer where
  pos : PosXY
  size : SizeWH
  deriving DecidableEq, Repr, Inhabited

/-- Fields of the `E1` word (R157). -/
structure DrawMode where
  texPageX : BitVec 4
  texPageY : BitVec 1
  semiMode : BitVec 2
  texDepth : BitVec 2
  dither : Bool
  drawToDisplay : Bool
  texDisable : Bool
  flipX : Bool
  flipY : Bool
  deriving DecidableEq, Repr, Inhabited

/-- Fields of the `E2` word (R158). -/
structure TexWin where
  maskX : BitVec 5
  maskY : BitVec 5
  offsetX : BitVec 5
  offsetY : BitVec 5
  deriving DecidableEq, Repr, Inhabited

/-- Fields of the `E3` and `E4` words (R159). -/
structure Corner where
  x : BitVec 10
  y : BitVec 9
  deriving DecidableEq, Repr, Inhabited

/-- Fields of the `E5` word, signed (R160). -/
structure Offset where
  x : BitVec 11
  y : BitVec 11
  deriving DecidableEq, Repr, Inhabited

/-- Fields of the `E6` word (R161). -/
structure MaskSet where
  setMask : Bool
  checkMask : Bool
  deriving DecidableEq, Repr, Inhabited

/-- Parameter of GP1 03: true is display off (R162, R486). -/
structure DispEn where
  off : Bool
  deriving DecidableEq, Repr, Inhabited

/-- Parameter of GP1 04 (R162, R488). -/
structure DmaDir where
  dir : BitVec 2
  deriving DecidableEq, Repr, Inhabited

/-- Parameter of GP1 05 (R162, R489). -/
structure DispStart where
  x : BitVec 10
  y : BitVec 9
  deriving DecidableEq, Repr, Inhabited

/-- Parameter of GP1 06 (R162, R490). -/
structure HRange where
  x1 : BitVec 12
  x2 : BitVec 12
  deriving DecidableEq, Repr, Inhabited

/-- Parameter of GP1 07 (R162, R491). -/
structure VRange where
  y1 : BitVec 10
  y2 : BitVec 10
  deriving DecidableEq, Repr, Inhabited

/-- Parameter of GP1 08 (R162, R492, R493). -/
structure DispMode where
  hres1 : BitVec 2
  vres : Bool
  videoMode : Bool
  depth24 : Bool
  vInterlace : Bool
  hres2 : Bool
  reverse : Bool
  deriving DecidableEq, Repr, Inhabited

/-- Parameter of GP1 10 (R162, R496). -/
structure GetInfo where
  index : BitVec 4
  deriving DecidableEq, Repr, Inhabited

/-- One constructor per row of the opcode table, in the table's order. -/
inductive Instr where
  /-- `NOP`, GP0 0x00 (R210). -/
  | nop
  /-- `CLRCACHE`, GP0 0x01 (R211). -/
  | clrCache
  /-- `FILL`, GP0 0x02 (R432). -/
  | fill (o : Fill)
  /-- `IRQ`, GP0 0x1F (R212). -/
  | irq
  /-- `POLY_F3`, GP0 0x20 (R250). -/
  | polyF3 (o : PolyF3)
  /-- `POLY_F3@21`, GP0 0x21 (R251). -/
  | polyF3At21 (o : PolyF3)
  /-- `POLY_F3_S`, GP0 0x22 (R252). -/
  | polyF3S (o : PolyF3)
  /-- `POLY_F3_S@23`, GP0 0x23 (R253). -/
  | polyF3SAt23 (o : PolyF3)
  /-- `POLY_FT3`, GP0 0x24 (R254). -/
  | polyFT3 (o : PolyFT3)
  /-- `POLY_FT3_R`, GP0 0x25 (R255). -/
  | polyFT3R (o : PolyFT3)
  /-- `POLY_FT3_S`, GP0 0x26 (R256). -/
  | polyFT3S (o : PolyFT3)
  /-- `POLY_FT3_SR`, GP0 0x27 (R257). -/
  | polyFT3SR (o : PolyFT3)
  /-- `POLY_F4`, GP0 0x28 (R258). -/
  | polyF4 (o : PolyF4)
  /-- `POLY_F4@29`, GP0 0x29 (R259). -/
  | polyF4At29 (o : PolyF4)
  /-- `POLY_F4_S`, GP0 0x2A (R260). -/
  | polyF4S (o : PolyF4)
  /-- `POLY_F4_S@2B`, GP0 0x2B (R261). -/
  | polyF4SAt2b (o : PolyF4)
  /-- `POLY_FT4`, GP0 0x2C (R262). -/
  | polyFT4 (o : PolyFT4)
  /-- `POLY_FT4_R`, GP0 0x2D (R263). -/
  | polyFT4R (o : PolyFT4)
  /-- `POLY_FT4_S`, GP0 0x2E (R264). -/
  | polyFT4S (o : PolyFT4)
  /-- `POLY_FT4_SR`, GP0 0x2F (R265). -/
  | polyFT4SR (o : PolyFT4)
  /-- `POLY_G3`, GP0 0x30 (R266). -/
  | polyG3 (o : PolyG3)
  /-- `POLY_G3@31`, GP0 0x31 (R267). -/
  | polyG3At31 (o : PolyG3)
  /-- `POLY_G3_S`, GP0 0x32 (R268). -/
  | polyG3S (o : PolyG3)
  /-- `POLY_G3_S@33`, GP0 0x33 (R269). -/
  | polyG3SAt33 (o : PolyG3)
  /-- `POLY_GT3`, GP0 0x34 (R270). -/
  | polyGT3 (o : PolyGT3)
  /-- `POLY_GT3_R`, GP0 0x35 (R271). -/
  | polyGT3R (o : PolyGT3)
  /-- `POLY_GT3_S`, GP0 0x36 (R272). -/
  | polyGT3S (o : PolyGT3)
  /-- `POLY_GT3_SR`, GP0 0x37 (R273). -/
  | polyGT3SR (o : PolyGT3)
  /-- `POLY_G4`, GP0 0x38 (R274). -/
  | polyG4 (o : PolyG4)
  /-- `POLY_G4@39`, GP0 0x39 (R275). -/
  | polyG4At39 (o : PolyG4)
  /-- `POLY_G4_S`, GP0 0x3A (R276). -/
  | polyG4S (o : PolyG4)
  /-- `POLY_G4_S@3B`, GP0 0x3B (R277). -/
  | polyG4SAt3b (o : PolyG4)
  /-- `POLY_GT4`, GP0 0x3C (R278). -/
  | polyGT4 (o : PolyGT4)
  /-- `POLY_GT4_R`, GP0 0x3D (R279). -/
  | polyGT4R (o : PolyGT4)
  /-- `POLY_GT4_S`, GP0 0x3E (R280). -/
  | polyGT4S (o : PolyGT4)
  /-- `POLY_GT4_SR`, GP0 0x3F (R281). -/
  | polyGT4SR (o : PolyGT4)
  /-- `LINE_F`, GP0 0x40 (R306). -/
  | lineF (o : LineF)
  /-- `LINE_F@41`, GP0 0x41 (R307). -/
  | lineFAt41 (o : LineF)
  /-- `LINE_F_S`, GP0 0x42 (R308). -/
  | lineFS (o : LineF)
  /-- `LINE_F_S@43`, GP0 0x43 (R309). -/
  | lineFSAt43 (o : LineF)
  /-- `LINE_F@44`, GP0 0x44 (R310). -/
  | lineFAt44 (o : LineF)
  /-- `LINE_F@45`, GP0 0x45 (R311). -/
  | lineFAt45 (o : LineF)
  /-- `LINE_F_S@46`, GP0 0x46 (R312). -/
  | lineFSAt46 (o : LineF)
  /-- `LINE_F_S@47`, GP0 0x47 (R313). -/
  | lineFSAt47 (o : LineF)
  /-- `POLYLINE@48`, GP0 0x48 (R322). -/
  | polyline48
  /-- `POLYLINE@49`, GP0 0x49 (R322). -/
  | polyline49
  /-- `POLYLINE@4A`, GP0 0x4A (R322). -/
  | polyline4a
  /-- `POLYLINE@4B`, GP0 0x4B (R322). -/
  | polyline4b
  /-- `POLYLINE@4C`, GP0 0x4C (R322). -/
  | polyline4c
  /-- `POLYLINE@4D`, GP0 0x4D (R322). -/
  | polyline4d
  /-- `POLYLINE@4E`, GP0 0x4E (R322). -/
  | polyline4e
  /-- `POLYLINE@4F`, GP0 0x4F (R322). -/
  | polyline4f
  /-- `LINE_G`, GP0 0x50 (R314). -/
  | lineG (o : LineG)
  /-- `LINE_G@51`, GP0 0x51 (R315). -/
  | lineGAt51 (o : LineG)
  /-- `LINE_G_S`, GP0 0x52 (R316). -/
  | lineGS (o : LineG)
  /-- `LINE_G_S@53`, GP0 0x53 (R317). -/
  | lineGSAt53 (o : LineG)
  /-- `LINE_G@54`, GP0 0x54 (R318). -/
  | lineGAt54 (o : LineG)
  /-- `LINE_G@55`, GP0 0x55 (R319). -/
  | lineGAt55 (o : LineG)
  /-- `LINE_G_S@56`, GP0 0x56 (R320). -/
  | lineGSAt56 (o : LineG)
  /-- `LINE_G_S@57`, GP0 0x57 (R321). -/
  | lineGSAt57 (o : LineG)
  /-- `POLYLINE@58`, GP0 0x58 (R322). -/
  | polyline58
  /-- `POLYLINE@59`, GP0 0x59 (R322). -/
  | polyline59
  /-- `POLYLINE@5A`, GP0 0x5A (R322). -/
  | polyline5a
  /-- `POLYLINE@5B`, GP0 0x5B (R322). -/
  | polyline5b
  /-- `POLYLINE@5C`, GP0 0x5C (R322). -/
  | polyline5c
  /-- `POLYLINE@5D`, GP0 0x5D (R322). -/
  | polyline5d
  /-- `POLYLINE@5E`, GP0 0x5E (R322). -/
  | polyline5e
  /-- `POLYLINE@5F`, GP0 0x5F (R322). -/
  | polyline5f
  /-- `RECT_V`, GP0 0x60 (R346). -/
  | rectV (o : RectV)
  /-- `RECT_V@61`, GP0 0x61 (R347). -/
  | rectVAt61 (o : RectV)
  /-- `RECT_V_S`, GP0 0x62 (R348). -/
  | rectVS (o : RectV)
  /-- `RECT_V_S@63`, GP0 0x63 (R349). -/
  | rectVSAt63 (o : RectV)
  /-- `RECT_TV`, GP0 0x64 (R350). -/
  | rectTV (o : RectTV)
  /-- `RECT_TV_R`, GP0 0x65 (R351). -/
  | rectTVR (o : RectTV)
  /-- `RECT_TV_S`, GP0 0x66 (R352). -/
  | rectTVS (o : RectTV)
  /-- `RECT_TV_SR`, GP0 0x67 (R353). -/
  | rectTVSR (o : RectTV)
  /-- `RECT_1`, GP0 0x68 (R354). -/
  | rect1 (o : RectS)
  /-- `RECT_1@69`, GP0 0x69 (R355). -/
  | rect1At69 (o : RectS)
  /-- `RECT_1_S`, GP0 0x6A (R356). -/
  | rect1S (o : RectS)
  /-- `RECT_1_S@6B`, GP0 0x6B (R357). -/
  | rect1SAt6b (o : RectS)
  /-- `RECT_T1`, GP0 0x6C (R358). -/
  | rectT1 (o : RectTS)
  /-- `RECT_T1_R`, GP0 0x6D (R359). -/
  | rectT1R (o : RectTS)
  /-- `RECT_T1_S`, GP0 0x6E (R360). -/
  | rectT1S (o : RectTS)
  /-- `RECT_T1_SR`, GP0 0x6F (R361). -/
  | rectT1SR (o : RectTS)
  /-- `RECT_8`, GP0 0x70 (R362). -/
  | rect8 (o : RectS)
  /-- `RECT_8@71`, GP0 0x71 (R363). -/
  | rect8At71 (o : RectS)
  /-- `RECT_8_S`, GP0 0x72 (R364). -/
  | rect8S (o : RectS)
  /-- `RECT_8_S@73`, GP0 0x73 (R365). -/
  | rect8SAt73 (o : RectS)
  /-- `RECT_T8`, GP0 0x74 (R366). -/
  | rectT8 (o : RectTS)
  /-- `RECT_T8_R`, GP0 0x75 (R367). -/
  | rectT8R (o : RectTS)
  /-- `RECT_T8_S`, GP0 0x76 (R368). -/
  | rectT8S (o : RectTS)
  /-- `RECT_T8_SR`, GP0 0x77 (R369). -/
  | rectT8SR (o : RectTS)
  /-- `RECT_16`, GP0 0x78 (R370). -/
  | rect16 (o : RectS)
  /-- `RECT_16@79`, GP0 0x79 (R371). -/
  | rect16At79 (o : RectS)
  /-- `RECT_16_S`, GP0 0x7A (R372). -/
  | rect16S (o : RectS)
  /-- `RECT_16_S@7B`, GP0 0x7B (R373). -/
  | rect16SAt7b (o : RectS)
  /-- `RECT_T16`, GP0 0x7C (R374). -/
  | rectT16 (o : RectTS)
  /-- `RECT_T16_R`, GP0 0x7D (R375). -/
  | rectT16R (o : RectTS)
  /-- `RECT_T16_S`, GP0 0x7E (R376). -/
  | rectT16S (o : RectTS)
  /-- `RECT_T16_SR`, GP0 0x7F (R377). -/
  | rectT16SR (o : RectTS)
  /-- `COPY_VV`, GP0 0x80 (R435). -/
  | copyVV (o : CopyVV)
  /-- `COPY_CV`, GP0 0xA0 (R440). -/
  | copyCV (o : CopyXfer)
  /-- `COPY_VC`, GP0 0xC0 (R446). -/
  | copyVC (o : CopyXfer)
  /-- `DRAWMODE`, GP0 0xE1 (R462). -/
  | drawMode (o : DrawMode)
  /-- `TEXWIN`, GP0 0xE2 (R465). -/
  | texWin (o : TexWin)
  /-- `AREA_TL`, GP0 0xE3 (R466). -/
  | areaTL (o : Corner)
  /-- `AREA_BR`, GP0 0xE4 (R467). -/
  | areaBR (o : Corner)
  /-- `OFFSET`, GP0 0xE5 (R468). -/
  | offset (o : Offset)
  /-- `MASKSET`, GP0 0xE6 (R470). -/
  | maskSet (o : MaskSet)
  /-- `G1_RESET`, GP1 0x00 (R482). -/
  | g1Reset
  /-- `G1_CLRQ`, GP1 0x01 (R483). -/
  | g1ClrQ
  /-- `G1_ACKIRQ`, GP1 0x02 (R484). -/
  | g1AckIrq
  /-- `G1_DISPEN`, GP1 0x03 (R486). -/
  | g1DispEn (o : DispEn)
  /-- `G1_DMADIR`, GP1 0x04 (R488). -/
  | g1DmaDir (o : DmaDir)
  /-- `G1_DISPSTART`, GP1 0x05 (R489). -/
  | g1DispStart (o : DispStart)
  /-- `G1_HRANGE`, GP1 0x06 (R490). -/
  | g1HRange (o : HRange)
  /-- `G1_VRANGE`, GP1 0x07 (R491). -/
  | g1VRange (o : VRange)
  /-- `G1_DISPMODE`, GP1 0x08 (R492). -/
  | g1DispMode (o : DispMode)
  /-- `G1_GETINFO`, GP1 0x10 (R496). -/
  | g1GetInfo (o : GetInfo)
  deriving DecidableEq, Repr, Inhabited

end Sys2Proof
end

