-- ==== Sys2Proof/WellFormed.lean ====
section
/-! DEFINITION. Well-formed instructions: those that are not fatal inputs by their own encoding. R595 of
`spec/70_reset_and_hazards.md` lists the fatal inputs; the ones a command carries in itself are the polyline
opcodes (R322), a copy of zero width or height (R431) and GP1 08 with bit 7 (R493). The operand widths need no
check: every operand field has exactly the bits of its encoding. -/

namespace Sys2Proof

/-- Neither side of a copy's size is zero (R431). -/
def SizeWH.nonzero (z : SizeWH) : Bool := z.w != 0#16 && z.h != 0#16

/-- The instruction is no fatal input by itself (R595). -/
def Instr.wf : Instr → Bool
  | .nop | .clrCache | .fill _ | .irq | .polyF3 _ | .polyF3At21 _ | .polyF3S _ | .polyF3SAt23 _ | .polyFT3 _
  | .polyFT3R _ | .polyFT3S _ | .polyFT3SR _ | .polyF4 _ | .polyF4At29 _ | .polyF4S _ | .polyF4SAt2b _
  | .polyFT4 _ | .polyFT4R _ | .polyFT4S _ | .polyFT4SR _ | .polyG3 _ | .polyG3At31 _ | .polyG3S _
  | .polyG3SAt33 _ | .polyGT3 _ | .polyGT3R _ | .polyGT3S _ | .polyGT3SR _ | .polyG4 _ | .polyG4At39 _
  | .polyG4S _ | .polyG4SAt3b _ | .polyGT4 _ | .polyGT4R _ | .polyGT4S _ | .polyGT4SR _ | .lineF _
  | .lineFAt41 _ | .lineFS _ | .lineFSAt43 _ | .lineFAt44 _ | .lineFAt45 _ | .lineFSAt46 _ | .lineFSAt47 _
  | .lineG _ | .lineGAt51 _ | .lineGS _ | .lineGSAt53 _ | .lineGAt54 _ | .lineGAt55 _ | .lineGSAt56 _
  | .lineGSAt57 _ | .rectV _ | .rectVAt61 _ | .rectVS _ | .rectVSAt63 _ | .rectTV _ | .rectTVR _ | .rectTVS _
  | .rectTVSR _ | .rect1 _ | .rect1At69 _ | .rect1S _ | .rect1SAt6b _ | .rectT1 _ | .rectT1R _ | .rectT1S _
  | .rectT1SR _ | .rect8 _ | .rect8At71 _ | .rect8S _ | .rect8SAt73 _ | .rectT8 _ | .rectT8R _ | .rectT8S _
  | .rectT8SR _ | .rect16 _ | .rect16At79 _ | .rect16S _ | .rect16SAt7b _ | .rectT16 _ | .rectT16R _
  | .rectT16S _ | .rectT16SR _ | .drawMode _ | .texWin _ | .areaTL _ | .areaBR _ | .offset _ | .maskSet _
  | .g1Reset | .g1ClrQ | .g1AckIrq | .g1DispEn _ | .g1DmaDir _ | .g1DispStart _ | .g1HRange _ | .g1VRange _
  | .g1GetInfo _ => true
  | .copyVV o => o.size.nonzero
  | .copyCV o => o.size.nonzero
  | .copyVC o => o.size.nonzero
  | .g1DispMode o => !o.reverse
  | .polyline48 | .polyline49 | .polyline4a | .polyline4b | .polyline4c | .polyline4d | .polyline4e
  | .polyline4f | .polyline58 | .polyline59 | .polyline5a | .polyline5b | .polyline5c | .polyline5d
  | .polyline5e | .polyline5f => false

/-- `Instr.wf` as a proposition. -/
abbrev Instr.WellFormed (i : Instr) : Prop := i.wf = true

end Sys2Proof
end

