-- ==== Sys2Proof/Decode.lean ====
section
/-! DEFINITION. The decoder, total on any words and rejecting by name, and after it the encoder, both written from
the tables of `spec/30_encoding.md`. `W[0]`, the first word of a command, carries the opcode in bits 31:24
(R140). -/

namespace Sys2Proof

/-! ### Bit fields (R11) -/

/-- Bits `lo + n - 1` down to `lo` of a word. -/
def bits (w : Word) (lo n : Nat) : BitVec n := w.extractLsb' lo n

/-- One bit of a word. -/
def bit (w : Word) (i : Nat) : Bool := w.getLsbD i

/-- A field in its place in a word, its least significant bit at bit `lo`. -/
def place {n : Nat} (lo : Nat) (x : BitVec n) : Word := x.setWidth 32 <<< lo

/-- A flag in its place in a word. -/
def placeBit (i : Nat) (x : Bool) : Word := place i (BitVec.ofBool x)

/-- The opcode of a command's first word (R140). -/
def opcodeOf (w : Word) : BitVec 8 := bits w 24 8

/-! ### Operand words -/

/-- `colour(w)` (R143). -/
def Rgb.ofWord (w : Word) : Rgb := ⟨bits w 0 8, bits w 8 8, bits w 16 8⟩

/-- The fields of a `VW` word (R144). -/
def Vertex.ofWord (w : Word) : Vertex := ⟨bits w 0 11, bits w 16 11⟩

/-- The coordinates of a `TW` word (R145). -/
def TexCoord.ofWord (w : Word) : TexCoord := ⟨bits w 0 8, bits w 8 8⟩

/-- The CLUT attribute of a `TW` word, its bits 31:16 (R146). -/
def Clut.ofWord (w : Word) : Clut := ⟨bits w 16 6, bits w 22 9⟩

/-- The texture-page attribute of a `TW` word, its bits 31:16 (R147). -/
def Page.ofWord (w : Word) : Page := ⟨bits w 16 4, bits w 20 1, bits w 23 2⟩

/-- The fields of an `XY` word (R148). -/
def PosXY.ofWord (w : Word) : PosXY := ⟨bits w 0 16, bits w 16 16⟩

/-- The fields of a `WH` word (R149). -/
def SizeWH.ofWord (w : Word) : SizeWH := ⟨bits w 0 16, bits w 16 16⟩

/-- The fields of a `WH` word in its narrow form (R149). -/
def RectSize.ofWord (w : Word) : RectSize := ⟨bits w 0 10, bits w 16 9⟩

/-- The fields of an `E1` word (R157). -/
def DrawMode.ofWord (w : Word) : DrawMode :=
  { texPageX := bits w 0 4, texPageY := bits w 4 1, semiMode := bits w 5 2, texDepth := bits w 7 2,
    dither := bit w 9, drawToDisplay := bit w 10, texDisable := bit w 11, flipX := bit w 12, flipY := bit w 13 }

/-- The fields of an `E2` word (R158). -/
def TexWin.ofWord (w : Word) : TexWin := ⟨bits w 0 5, bits w 5 5, bits w 10 5, bits w 15 5⟩

/-- The fields of an `E3` or `E4` word (R159). -/
def Corner.ofWord (w : Word) : Corner := ⟨bits w 0 10, bits w 10 9⟩

/-- The fields of an `E5` word (R160). -/
def Offset.ofWord (w : Word) : Offset := ⟨bits w 0 11, bits w 11 11⟩

/-- The fields of an `E6` word (R161). -/
def MaskSet.ofWord (w : Word) : MaskSet := ⟨bit w 0, bit w 1⟩

/-- The parameter of GP1 03 (R162). -/
def DispEn.ofWord (w : Word) : DispEn := ⟨bit w 0⟩

/-- The parameter of GP1 04 (R162). -/
def DmaDir.ofWord (w : Word) : DmaDir := ⟨bits w 0 2⟩

/-- The parameter of GP1 05 (R162). -/
def DispStart.ofWord (w : Word) : DispStart := ⟨bits w 0 10, bits w 10 9⟩

/-- The parameter of GP1 06 (R162). -/
def HRange.ofWord (w : Word) : HRange := ⟨bits w 0 12, bits w 12 12⟩

/-- The parameter of GP1 07 (R162). -/
def VRange.ofWord (w : Word) : VRange := ⟨bits w 0 10, bits w 10 10⟩

/-- The parameter of GP1 08 (R162). -/
def DispMode.ofWord (w : Word) : DispMode :=
  { hres1 := bits w 0 2, vres := bit w 2, videoMode := bit w 3, depth24 := bit w 4, vInterlace := bit w 5,
    hres2 := bit w 6, reverse := bit w 7 }

/-- The parameter of GP1 10 (R162). -/
def GetInfo.ofWord (w : Word) : GetInfo := ⟨bits w 0 4⟩

/-! ### Operand bundles, in word order (R152 to R155) -/

/-- The operands of a complete command of this shape. -/
def PolyF3.ofWords : List Word → Option PolyF3
  | [w0, w1, w2, w3] =>
    some { c := .ofWord w0, v0 := .ofWord w1, v1 := .ofWord w2, v2 := .ofWord w3 }
  | _ => none

/-- The operands of a complete command of this shape. -/
def PolyFT3.ofWords : List Word → Option PolyFT3
  | [w0, w1, w2, w3, w4, w5, w6] =>
    some { c := .ofWord w0, v0 := .ofWord w1, t0 := .ofWord w2, clut := .ofWord w2, v1 := .ofWord w3,
           t1 := .ofWord w4, page := .ofWord w4, v2 := .ofWord w5, t2 := .ofWord w6 }
  | _ => none

/-- The operands of a complete command of this shape. -/
def PolyF4.ofWords : List Word → Option PolyF4
  | [w0, w1, w2, w3, w4] =>
    some { c := .ofWord w0, v0 := .ofWord w1, v1 := .ofWord w2, v2 := .ofWord w3, v3 := .ofWord w4 }
  | _ => none

/-- The operands of a complete command of this shape. -/
def PolyFT4.ofWords : List Word → Option PolyFT4
  | [w0, w1, w2, w3, w4, w5, w6, w7, w8] =>
    some { c := .ofWord w0, v0 := .ofWord w1, t0 := .ofWord w2, clut := .ofWord w2, v1 := .ofWord w3,
           t1 := .ofWord w4, page := .ofWord w4, v2 := .ofWord w5, t2 := .ofWord w6, v3 := .ofWord w7,
           t3 := .ofWord w8 }
  | _ => none

/-- The operands of a complete command of this shape. -/
def PolyG3.ofWords : List Word → Option PolyG3
  | [w0, w1, w2, w3, w4, w5] =>
    some { c0 := .ofWord w0, v0 := .ofWord w1, c1 := .ofWord w2, v1 := .ofWord w3, c2 := .ofWord w4,
           v2 := .ofWord w5 }
  | _ => none

/-- The operands of a complete command of this shape. -/
def PolyGT3.ofWords : List Word → Option PolyGT3
  | [w0, w1, w2, w3, w4, w5, w6, w7, w8] =>
    some { c0 := .ofWord w0, v0 := .ofWord w1, t0 := .ofWord w2, clut := .ofWord w2, c1 := .ofWord w3,
           v1 := .ofWord w4, t1 := .ofWord w5, page := .ofWord w5, c2 := .ofWord w6, v2 := .ofWord w7,
           t2 := .ofWord w8 }
  | _ => none

/-- The operands of a complete command of this shape. -/
def PolyG4.ofWords : List Word → Option PolyG4
  | [w0, w1, w2, w3, w4, w5, w6, w7] =>
    some { c0 := .ofWord w0, v0 := .ofWord w1, c1 := .ofWord w2, v1 := .ofWord w3, c2 := .ofWord w4,
           v2 := .ofWord w5, c3 := .ofWord w6, v3 := .ofWord w7 }
  | _ => none

/-- The operands of a complete command of this shape. -/
def PolyGT4.ofWords : List Word → Option PolyGT4
  | [w0, w1, w2, w3, w4, w5, w6, w7, w8, w9, w10, w11] =>
    some { c0 := .ofWord w0, v0 := .ofWord w1, t0 := .ofWord w2, clut := .ofWord w2, c1 := .ofWord w3,
           v1 := .ofWord w4, t1 := .ofWord w5, page := .ofWord w5, c2 := .ofWord w6, v2 := .ofWord w7,
           t2 := .ofWord w8, c3 := .ofWord w9, v3 := .ofWord w10, t3 := .ofWord w11 }
  | _ => none

/-- The operands of a complete command of this shape. -/
def LineF.ofWords : List Word → Option LineF
  | [w0, w1, w2] =>
    some { c := .ofWord w0, a := .ofWord w1, b := .ofWord w2 }
  | _ => none

/-- The operands of a complete command of this shape. -/
def LineG.ofWords : List Word → Option LineG
  | [w0, w1, w2, w3] =>
    some { c0 := .ofWord w0, a := .ofWord w1, c1 := .ofWord w2, b := .ofWord w3 }
  | _ => none

/-- The operands of a complete command of this shape. -/
def RectV.ofWords : List Word → Option RectV
  | [w0, w1, w2] =>
    some { c := .ofWord w0, pos := .ofWord w1, size := .ofWord w2 }
  | _ => none

/-- The operands of a complete command of this shape. -/
def RectTV.ofWords : List Word → Option RectTV
  | [w0, w1, w2, w3] =>
    some { c := .ofWord w0, pos := .ofWord w1, t := .ofWord w2, clut := .ofWord w2, size := .ofWord w3 }
  | _ => none

/-- The operands of a complete command of this shape. -/
def RectS.ofWords : List Word → Option RectS
  | [w0, w1] =>
    some { c := .ofWord w0, pos := .ofWord w1 }
  | _ => none

/-- The operands of a complete command of this shape. -/
def RectTS.ofWords : List Word → Option RectTS
  | [w0, w1, w2] =>
    some { c := .ofWord w0, pos := .ofWord w1, t := .ofWord w2, clut := .ofWord w2 }
  | _ => none

/-- The operands of a complete command of this shape. -/
def Fill.ofWords : List Word → Option Fill
  | [w0, w1, w2] =>
    some { c := .ofWord w0, pos := .ofWord w1, size := .ofWord w2 }
  | _ => none

/-- The operands of a complete command of this shape. -/
def CopyVV.ofWords : List Word → Option CopyVV
  | [_, w1, w2, w3] =>
    some { src := .ofWord w1, dst := .ofWord w2, size := .ofWord w3 }
  | _ => none

/-- The operands of a complete command of this shape. -/
def CopyXfer.ofWords : List Word → Option CopyXfer
  | [_, w1, w2] =>
    some { pos := .ofWord w1, size := .ofWord w2 }
  | _ => none

/-! ### The opcode map -/

/-- A polyline opcode: bits 7:5 are `010` and bit 3 is set (R153, R322). -/
def isPolyline (op : BitVec 8) : Bool := op.extractLsb' 5 3 == 2#3 && op.getLsbD 3

/-- `GP0_LEN[op]`, the word count of each admitted opcode (R150). -/
def gp0Words (op : BitVec 8) : Option Nat :=
  match op.toNat with
  | 0x00 | 0x01 => some 1
  | 0x02 => some 3
  | 0x1F => some 1
  | 0x20 | 0x21 | 0x22 | 0x23 => some 4
  | 0x24 | 0x25 | 0x26 | 0x27 => some 7
  | 0x28 | 0x29 | 0x2A | 0x2B => some 5
  | 0x2C | 0x2D | 0x2E | 0x2F => some 9
  | 0x30 | 0x31 | 0x32 | 0x33 => some 6
  | 0x34 | 0x35 | 0x36 | 0x37 => some 9
  | 0x38 | 0x39 | 0x3A | 0x3B => some 8
  | 0x3C | 0x3D | 0x3E | 0x3F => some 12
  | 0x40 | 0x41 | 0x42 | 0x43 | 0x44 | 0x45 | 0x46 | 0x47 => some 3
  | 0x50 | 0x51 | 0x52 | 0x53 | 0x54 | 0x55 | 0x56 | 0x57 => some 4
  | 0x60 | 0x61 | 0x62 | 0x63 => some 3
  | 0x64 | 0x65 | 0x66 | 0x67 => some 4
  | 0x68 | 0x69 | 0x6A | 0x6B => some 2
  | 0x6C | 0x6D | 0x6E | 0x6F => some 3
  | 0x70 | 0x71 | 0x72 | 0x73 => some 2
  | 0x74 | 0x75 | 0x76 | 0x77 => some 3
  | 0x78 | 0x79 | 0x7A | 0x7B => some 2
  | 0x7C | 0x7D | 0x7E | 0x7F => some 3
  | 0x80 => some 4
  | 0xA0 | 0xC0 => some 3
  | 0xE1 | 0xE2 | 0xE3 | 0xE4 | 0xE5 | 0xE6 => some 1
  | _ => none

/-- The instruction a polyline opcode stands for; it has no operands (R322). -/
def polylineOf (op : BitVec 8) : Option Instr :=
  match op.toNat with
  | 0x48 => some .polyline48
  | 0x49 => some .polyline49
  | 0x4A => some .polyline4a
  | 0x4B => some .polyline4b
  | 0x4C => some .polyline4c
  | 0x4D => some .polyline4d
  | 0x4E => some .polyline4e
  | 0x4F => some .polyline4f
  | 0x58 => some .polyline58
  | 0x59 => some .polyline59
  | 0x5A => some .polyline5a
  | 0x5B => some .polyline5b
  | 0x5C => some .polyline5c
  | 0x5D => some .polyline5d
  | 0x5E => some .polyline5e
  | 0x5F => some .polyline5f
  | _ => none

/-- The instruction of an admitted opcode with its complete word list (R150). -/
def buildGp0 (op : BitVec 8) (ws : List Word) : Option Instr :=
  match op.toNat with
  | 0x00 => some .nop
  | 0x01 => some .clrCache
  | 0x02 => (Fill.ofWords ws).map .fill
  | 0x1F => some .irq
  | 0x20 => (PolyF3.ofWords ws).map .polyF3
  | 0x21 => (PolyF3.ofWords ws).map .polyF3At21
  | 0x22 => (PolyF3.ofWords ws).map .polyF3S
  | 0x23 => (PolyF3.ofWords ws).map .polyF3SAt23
  | 0x24 => (PolyFT3.ofWords ws).map .polyFT3
  | 0x25 => (PolyFT3.ofWords ws).map .polyFT3R
  | 0x26 => (PolyFT3.ofWords ws).map .polyFT3S
  | 0x27 => (PolyFT3.ofWords ws).map .polyFT3SR
  | 0x28 => (PolyF4.ofWords ws).map .polyF4
  | 0x29 => (PolyF4.ofWords ws).map .polyF4At29
  | 0x2A => (PolyF4.ofWords ws).map .polyF4S
  | 0x2B => (PolyF4.ofWords ws).map .polyF4SAt2b
  | 0x2C => (PolyFT4.ofWords ws).map .polyFT4
  | 0x2D => (PolyFT4.ofWords ws).map .polyFT4R
  | 0x2E => (PolyFT4.ofWords ws).map .polyFT4S
  | 0x2F => (PolyFT4.ofWords ws).map .polyFT4SR
  | 0x30 => (PolyG3.ofWords ws).map .polyG3
  | 0x31 => (PolyG3.ofWords ws).map .polyG3At31
  | 0x32 => (PolyG3.ofWords ws).map .polyG3S
  | 0x33 => (PolyG3.ofWords ws).map .polyG3SAt33
  | 0x34 => (PolyGT3.ofWords ws).map .polyGT3
  | 0x35 => (PolyGT3.ofWords ws).map .polyGT3R
  | 0x36 => (PolyGT3.ofWords ws).map .polyGT3S
  | 0x37 => (PolyGT3.ofWords ws).map .polyGT3SR
  | 0x38 => (PolyG4.ofWords ws).map .polyG4
  | 0x39 => (PolyG4.ofWords ws).map .polyG4At39
  | 0x3A => (PolyG4.ofWords ws).map .polyG4S
  | 0x3B => (PolyG4.ofWords ws).map .polyG4SAt3b
  | 0x3C => (PolyGT4.ofWords ws).map .polyGT4
  | 0x3D => (PolyGT4.ofWords ws).map .polyGT4R
  | 0x3E => (PolyGT4.ofWords ws).map .polyGT4S
  | 0x3F => (PolyGT4.ofWords ws).map .polyGT4SR
  | 0x40 => (LineF.ofWords ws).map .lineF
  | 0x41 => (LineF.ofWords ws).map .lineFAt41
  | 0x42 => (LineF.ofWords ws).map .lineFS
  | 0x43 => (LineF.ofWords ws).map .lineFSAt43
  | 0x44 => (LineF.ofWords ws).map .lineFAt44
  | 0x45 => (LineF.ofWords ws).map .lineFAt45
  | 0x46 => (LineF.ofWords ws).map .lineFSAt46
  | 0x47 => (LineF.ofWords ws).map .lineFSAt47
  | 0x50 => (LineG.ofWords ws).map .lineG
  | 0x51 => (LineG.ofWords ws).map .lineGAt51
  | 0x52 => (LineG.ofWords ws).map .lineGS
  | 0x53 => (LineG.ofWords ws).map .lineGSAt53
  | 0x54 => (LineG.ofWords ws).map .lineGAt54
  | 0x55 => (LineG.ofWords ws).map .lineGAt55
  | 0x56 => (LineG.ofWords ws).map .lineGSAt56
  | 0x57 => (LineG.ofWords ws).map .lineGSAt57
  | 0x60 => (RectV.ofWords ws).map .rectV
  | 0x61 => (RectV.ofWords ws).map .rectVAt61
  | 0x62 => (RectV.ofWords ws).map .rectVS
  | 0x63 => (RectV.ofWords ws).map .rectVSAt63
  | 0x64 => (RectTV.ofWords ws).map .rectTV
  | 0x65 => (RectTV.ofWords ws).map .rectTVR
  | 0x66 => (RectTV.ofWords ws).map .rectTVS
  | 0x67 => (RectTV.ofWords ws).map .rectTVSR
  | 0x68 => (RectS.ofWords ws).map .rect1
  | 0x69 => (RectS.ofWords ws).map .rect1At69
  | 0x6A => (RectS.ofWords ws).map .rect1S
  | 0x6B => (RectS.ofWords ws).map .rect1SAt6b
  | 0x6C => (RectTS.ofWords ws).map .rectT1
  | 0x6D => (RectTS.ofWords ws).map .rectT1R
  | 0x6E => (RectTS.ofWords ws).map .rectT1S
  | 0x6F => (RectTS.ofWords ws).map .rectT1SR
  | 0x70 => (RectS.ofWords ws).map .rect8
  | 0x71 => (RectS.ofWords ws).map .rect8At71
  | 0x72 => (RectS.ofWords ws).map .rect8S
  | 0x73 => (RectS.ofWords ws).map .rect8SAt73
  | 0x74 => (RectTS.ofWords ws).map .rectT8
  | 0x75 => (RectTS.ofWords ws).map .rectT8R
  | 0x76 => (RectTS.ofWords ws).map .rectT8S
  | 0x77 => (RectTS.ofWords ws).map .rectT8SR
  | 0x78 => (RectS.ofWords ws).map .rect16
  | 0x79 => (RectS.ofWords ws).map .rect16At79
  | 0x7A => (RectS.ofWords ws).map .rect16S
  | 0x7B => (RectS.ofWords ws).map .rect16SAt7b
  | 0x7C => (RectTS.ofWords ws).map .rectT16
  | 0x7D => (RectTS.ofWords ws).map .rectT16R
  | 0x7E => (RectTS.ofWords ws).map .rectT16S
  | 0x7F => (RectTS.ofWords ws).map .rectT16SR
  | 0x80 => (CopyVV.ofWords ws).map .copyVV
  | 0xA0 => (CopyXfer.ofWords ws).map .copyCV
  | 0xC0 => (CopyXfer.ofWords ws).map .copyVC
  | 0xE1 => ws.head?.map fun w => .drawMode (.ofWord w)
  | 0xE2 => ws.head?.map fun w => .texWin (.ofWord w)
  | 0xE3 => ws.head?.map fun w => .areaTL (.ofWord w)
  | 0xE4 => ws.head?.map fun w => .areaBR (.ofWord w)
  | 0xE5 => ws.head?.map fun w => .offset (.ofWord w)
  | 0xE6 => ws.head?.map fun w => .maskSet (.ofWord w)
  | _ => none

/-- The instruction of a GP1 word; the whole byte is compared (R162, R163 (c)). -/
def buildGp1 (w : Word) : Option Instr :=
  match (opcodeOf w).toNat with
  | 0x00 => some .g1Reset
  | 0x01 => some .g1ClrQ
  | 0x02 => some .g1AckIrq
  | 0x03 => some (.g1DispEn (.ofWord w))
  | 0x04 => some (.g1DmaDir (.ofWord w))
  | 0x05 => some (.g1DispStart (.ofWord w))
  | 0x06 => some (.g1HRange (.ofWord w))
  | 0x07 => some (.g1VRange (.ofWord w))
  | 0x08 => some (.g1DispMode (.ofWord w))
  | 0x10 => some (.g1GetInfo (.ofWord w))
  | _ => none

/-! ### The decoder -/

/-- Why the decoder reads no instruction. -/
inductive DecodeError where
  /-- There is no word at all. -/
  | noWords
  /-- The opcode is in no table of the channel (R163 (a), (c)). -/
  | unknownOpcode (ch : Channel) (op : BitVec 8)
  /-- Fewer words than the opcode's word count (R193, R194): `need` of them make the command. -/
  | tooFewWords (op : BitVec 8) (need : Nat)
  deriving DecidableEq, Repr

/-- Read one instruction at the head of a word list and answer the rest. A polyline opcode is read from its first
word alone (R322); any other GP0 command takes the words its opcode asks for (R150); a GP1 command is one word
(R140). -/
def decode : Channel → List Word → Except DecodeError (Instr × List Word)
  | _, [] => .error .noWords
  | .gp0, w :: ws =>
    let op := opcodeOf w
    match polylineOf op with
    | some i => .ok (i, ws)
    | none =>
      match gp0Words op with
      | none => .error (.unknownOpcode .gp0 op)
      | some need =>
        if (w :: ws).length < need then .error (.tooFewWords op need)
        else
          match buildGp0 op ((w :: ws).take need) with
          | some i => .ok (i, (w :: ws).drop need)
          | none => .error (.tooFewWords op need)
  | .gp1, w :: ws =>
    match buildGp1 w with
    | some i => .ok (i, ws)
    | none => .error (.unknownOpcode .gp1 (opcodeOf w))

/-- `ceil(w * h / 2)`, the data words of a CPU to VRAM copy (R164, R417). -/
def dataWords (z : SizeWH) : Nat := (z.w.toNat * z.h.toNat + 1) / 2

/-! ### The encoder: bits the spec ignores are written as zero (log 14) -/

/-- The opcode of an instruction on its channel (R150, R162). -/
def Instr.opcode : Instr → BitVec 8
  | .nop => 0x00#8
  | .clrCache => 0x01#8
  | .fill _ => 0x02#8
  | .irq => 0x1F#8
  | .polyF3 _ => 0x20#8
  | .polyF3At21 _ => 0x21#8
  | .polyF3S _ => 0x22#8
  | .polyF3SAt23 _ => 0x23#8
  | .polyFT3 _ => 0x24#8
  | .polyFT3R _ => 0x25#8
  | .polyFT3S _ => 0x26#8
  | .polyFT3SR _ => 0x27#8
  | .polyF4 _ => 0x28#8
  | .polyF4At29 _ => 0x29#8
  | .polyF4S _ => 0x2A#8
  | .polyF4SAt2b _ => 0x2B#8
  | .polyFT4 _ => 0x2C#8
  | .polyFT4R _ => 0x2D#8
  | .polyFT4S _ => 0x2E#8
  | .polyFT4SR _ => 0x2F#8
  | .polyG3 _ => 0x30#8
  | .polyG3At31 _ => 0x31#8
  | .polyG3S _ => 0x32#8
  | .polyG3SAt33 _ => 0x33#8
  | .polyGT3 _ => 0x34#8
  | .polyGT3R _ => 0x35#8
  | .polyGT3S _ => 0x36#8
  | .polyGT3SR _ => 0x37#8
  | .polyG4 _ => 0x38#8
  | .polyG4At39 _ => 0x39#8
  | .polyG4S _ => 0x3A#8
  | .polyG4SAt3b _ => 0x3B#8
  | .polyGT4 _ => 0x3C#8
  | .polyGT4R _ => 0x3D#8
  | .polyGT4S _ => 0x3E#8
  | .polyGT4SR _ => 0x3F#8
  | .lineF _ => 0x40#8
  | .lineFAt41 _ => 0x41#8
  | .lineFS _ => 0x42#8
  | .lineFSAt43 _ => 0x43#8
  | .lineFAt44 _ => 0x44#8
  | .lineFAt45 _ => 0x45#8
  | .lineFSAt46 _ => 0x46#8
  | .lineFSAt47 _ => 0x47#8
  | .polyline48 => 0x48#8
  | .polyline49 => 0x49#8
  | .polyline4a => 0x4A#8
  | .polyline4b => 0x4B#8
  | .polyline4c => 0x4C#8
  | .polyline4d => 0x4D#8
  | .polyline4e => 0x4E#8
  | .polyline4f => 0x4F#8
  | .lineG _ => 0x50#8
  | .lineGAt51 _ => 0x51#8
  | .lineGS _ => 0x52#8
  | .lineGSAt53 _ => 0x53#8
  | .lineGAt54 _ => 0x54#8
  | .lineGAt55 _ => 0x55#8
  | .lineGSAt56 _ => 0x56#8
  | .lineGSAt57 _ => 0x57#8
  | .polyline58 => 0x58#8
  | .polyline59 => 0x59#8
  | .polyline5a => 0x5A#8
  | .polyline5b => 0x5B#8
  | .polyline5c => 0x5C#8
  | .polyline5d => 0x5D#8
  | .polyline5e => 0x5E#8
  | .polyline5f => 0x5F#8
  | .rectV _ => 0x60#8
  | .rectVAt61 _ => 0x61#8
  | .rectVS _ => 0x62#8
  | .rectVSAt63 _ => 0x63#8
  | .rectTV _ => 0x64#8
  | .rectTVR _ => 0x65#8
  | .rectTVS _ => 0x66#8
  | .rectTVSR _ => 0x67#8
  | .rect1 _ => 0x68#8
  | .rect1At69 _ => 0x69#8
  | .rect1S _ => 0x6A#8
  | .rect1SAt6b _ => 0x6B#8
  | .rectT1 _ => 0x6C#8
  | .rectT1R _ => 0x6D#8
  | .rectT1S _ => 0x6E#8
  | .rectT1SR _ => 0x6F#8
  | .rect8 _ => 0x70#8
  | .rect8At71 _ => 0x71#8
  | .rect8S _ => 0x72#8
  | .rect8SAt73 _ => 0x73#8
  | .rectT8 _ => 0x74#8
  | .rectT8R _ => 0x75#8
  | .rectT8S _ => 0x76#8
  | .rectT8SR _ => 0x77#8
  | .rect16 _ => 0x78#8
  | .rect16At79 _ => 0x79#8
  | .rect16S _ => 0x7A#8
  | .rect16SAt7b _ => 0x7B#8
  | .rectT16 _ => 0x7C#8
  | .rectT16R _ => 0x7D#8
  | .rectT16S _ => 0x7E#8
  | .rectT16SR _ => 0x7F#8
  | .copyVV _ => 0x80#8
  | .copyCV _ => 0xA0#8
  | .copyVC _ => 0xC0#8
  | .drawMode _ => 0xE1#8
  | .texWin _ => 0xE2#8
  | .areaTL _ => 0xE3#8
  | .areaBR _ => 0xE4#8
  | .offset _ => 0xE5#8
  | .maskSet _ => 0xE6#8
  | .g1Reset => 0x00#8
  | .g1ClrQ => 0x01#8
  | .g1AckIrq => 0x02#8
  | .g1DispEn _ => 0x03#8
  | .g1DmaDir _ => 0x04#8
  | .g1DispStart _ => 0x05#8
  | .g1HRange _ => 0x06#8
  | .g1VRange _ => 0x07#8
  | .g1DispMode _ => 0x08#8
  | .g1GetInfo _ => 0x10#8

/-- The channel an instruction is sent on (R150, R162). -/
def Instr.channel : Instr → Channel
  | .nop | .clrCache | .fill _ | .irq | .polyF3 _ | .polyF3At21 _ | .polyF3S _ | .polyF3SAt23 _ | .polyFT3 _
  | .polyFT3R _ | .polyFT3S _ | .polyFT3SR _ | .polyF4 _ | .polyF4At29 _ | .polyF4S _ | .polyF4SAt2b _
  | .polyFT4 _ | .polyFT4R _ | .polyFT4S _ | .polyFT4SR _ | .polyG3 _ | .polyG3At31 _ | .polyG3S _
  | .polyG3SAt33 _ | .polyGT3 _ | .polyGT3R _ | .polyGT3S _ | .polyGT3SR _ | .polyG4 _ | .polyG4At39 _
  | .polyG4S _ | .polyG4SAt3b _ | .polyGT4 _ | .polyGT4R _ | .polyGT4S _ | .polyGT4SR _ | .lineF _
  | .lineFAt41 _ | .lineFS _ | .lineFSAt43 _ | .lineFAt44 _ | .lineFAt45 _ | .lineFSAt46 _ | .lineFSAt47 _
  | .polyline48 | .polyline49 | .polyline4a | .polyline4b | .polyline4c | .polyline4d | .polyline4e
  | .polyline4f | .lineG _ | .lineGAt51 _ | .lineGS _ | .lineGSAt53 _ | .lineGAt54 _ | .lineGAt55 _
  | .lineGSAt56 _ | .lineGSAt57 _ | .polyline58 | .polyline59 | .polyline5a | .polyline5b | .polyline5c
  | .polyline5d | .polyline5e | .polyline5f | .rectV _ | .rectVAt61 _ | .rectVS _ | .rectVSAt63 _ | .rectTV _
  | .rectTVR _ | .rectTVS _ | .rectTVSR _ | .rect1 _ | .rect1At69 _ | .rect1S _ | .rect1SAt6b _ | .rectT1 _
  | .rectT1R _ | .rectT1S _ | .rectT1SR _ | .rect8 _ | .rect8At71 _ | .rect8S _ | .rect8SAt73 _ | .rectT8 _
  | .rectT8R _ | .rectT8S _ | .rectT8SR _ | .rect16 _ | .rect16At79 _ | .rect16S _ | .rect16SAt7b _ | .rectT16 _
  | .rectT16R _ | .rectT16S _ | .rectT16SR _ | .copyVV _ | .copyCV _ | .copyVC _ | .drawMode _ | .texWin _
  | .areaTL _ | .areaBR _ | .offset _ | .maskSet _ => .gp0
  | .g1Reset | .g1ClrQ | .g1AckIrq | .g1DispEn _ | .g1DmaDir _ | .g1DispStart _ | .g1HRange _ | .g1VRange _
  | .g1DispMode _ | .g1GetInfo _ => .gp1

/-- First word of a command, or a later colour word when `op` is zero (R143). -/
def Rgb.toWord (op : BitVec 8) (c : Rgb) : Word := place 24 op ||| place 16 c.b ||| place 8 c.g ||| place 0 c.r

/-- R144. -/
def Vertex.toWord (v : Vertex) : Word := place 16 v.y ||| place 0 v.x

/-- The CLUT attribute in its place in a texture word (R146). -/
def Clut.attr (c : Clut) : Word := place 22 c.y ||| place 16 c.x

/-- The texture-page attribute in its place in a texture word (R147). -/
def Page.attr (p : Page) : Word := place 23 p.depth ||| place 20 p.y ||| place 16 p.x

/-- R145. -/
def TexCoord.toWord (attr : Word) (t : TexCoord) : Word := attr ||| place 8 t.v ||| place 0 t.u

/-- R148. -/
def PosXY.toWord (p : PosXY) : Word := place 16 p.y ||| place 0 p.x

/-- R149. -/
def SizeWH.toWord (z : SizeWH) : Word := place 16 z.h ||| place 0 z.w

/-- R149, narrow form. -/
def RectSize.toWord (z : RectSize) : Word := place 16 z.h ||| place 0 z.w

/-- A word that is an opcode and nothing else. -/
def opWord (op : BitVec 8) : Word := place 24 op

/-- R157. -/
def DrawMode.toWord (op : BitVec 8) (o : DrawMode) : Word :=
  place 24 op ||| placeBit 13 o.flipY ||| placeBit 12 o.flipX ||| placeBit 11 o.texDisable |||
    placeBit 10 o.drawToDisplay ||| placeBit 9 o.dither ||| place 7 o.texDepth ||| place 5 o.semiMode |||
    place 4 o.texPageY ||| place 0 o.texPageX

/-- R158. -/
def TexWin.toWord (op : BitVec 8) (o : TexWin) : Word :=
  place 24 op ||| place 15 o.offsetY ||| place 10 o.offsetX ||| place 5 o.maskY ||| place 0 o.maskX

/-- R159. -/
def Corner.toWord (op : BitVec 8) (o : Corner) : Word := place 24 op ||| place 10 o.y ||| place 0 o.x

/-- R160. -/
def Offset.toWord (op : BitVec 8) (o : Offset) : Word := place 24 op ||| place 11 o.y ||| place 0 o.x

/-- R161. -/
def MaskSet.toWord (op : BitVec 8) (o : MaskSet) : Word :=
  place 24 op ||| placeBit 1 o.checkMask ||| placeBit 0 o.setMask

/-- R162, GP1 03. -/
def DispEn.toWord (op : BitVec 8) (o : DispEn) : Word := place 24 op ||| placeBit 0 o.off

/-- R162, GP1 04. -/
def DmaDir.toWord (op : BitVec 8) (o : DmaDir) : Word := place 24 op ||| place 0 o.dir

/-- R162, GP1 05. -/
def DispStart.toWord (op : BitVec 8) (o : DispStart) : Word := place 24 op ||| place 10 o.y ||| place 0 o.x

/-- R162, GP1 06. -/
def HRange.toWord (op : BitVec 8) (o : HRange) : Word := place 24 op ||| place 12 o.x2 ||| place 0 o.x1

/-- R162, GP1 07. -/
def VRange.toWord (op : BitVec 8) (o : VRange) : Word := place 24 op ||| place 10 o.y2 ||| place 0 o.y1

/-- R162, GP1 08. -/
def DispMode.toWord (op : BitVec 8) (o : DispMode) : Word :=
  place 24 op ||| placeBit 7 o.reverse ||| placeBit 6 o.hres2 ||| placeBit 5 o.vInterlace |||
    placeBit 4 o.depth24 ||| placeBit 3 o.videoMode ||| placeBit 2 o.vres ||| place 0 o.hres1

/-- R162, GP1 10. -/
def GetInfo.toWord (op : BitVec 8) (o : GetInfo) : Word := place 24 op ||| place 0 o.index

/-- The words of a command of this shape, the opcode given. -/
def PolyF3.toWords (op : BitVec 8) (o : PolyF3) : List Word :=
  [o.c.toWord op, o.v0.toWord, o.v1.toWord, o.v2.toWord]

/-- The words of a command of this shape, the opcode given. -/
def PolyFT3.toWords (op : BitVec 8) (o : PolyFT3) : List Word :=
  [o.c.toWord op, o.v0.toWord, o.t0.toWord o.clut.attr, o.v1.toWord, o.t1.toWord o.page.attr, o.v2.toWord,
   o.t2.toWord 0#32]

/-- The words of a command of this shape, the opcode given. -/
def PolyF4.toWords (op : BitVec 8) (o : PolyF4) : List Word :=
  [o.c.toWord op, o.v0.toWord, o.v1.toWord, o.v2.toWord, o.v3.toWord]

/-- The words of a command of this shape, the opcode given. -/
def PolyFT4.toWords (op : BitVec 8) (o : PolyFT4) : List Word :=
  [o.c.toWord op, o.v0.toWord, o.t0.toWord o.clut.attr, o.v1.toWord, o.t1.toWord o.page.attr, o.v2.toWord,
   o.t2.toWord 0#32, o.v3.toWord, o.t3.toWord 0#32]

/-- The words of a command of this shape, the opcode given. -/
def PolyG3.toWords (op : BitVec 8) (o : PolyG3) : List Word :=
  [o.c0.toWord op, o.v0.toWord, o.c1.toWord 0#8, o.v1.toWord, o.c2.toWord 0#8, o.v2.toWord]

/-- The words of a command of this shape, the opcode given. -/
def PolyGT3.toWords (op : BitVec 8) (o : PolyGT3) : List Word :=
  [o.c0.toWord op, o.v0.toWord, o.t0.toWord o.clut.attr, o.c1.toWord 0#8, o.v1.toWord, o.t1.toWord o.page.attr,
   o.c2.toWord 0#8, o.v2.toWord, o.t2.toWord 0#32]

/-- The words of a command of this shape, the opcode given. -/
def PolyG4.toWords (op : BitVec 8) (o : PolyG4) : List Word :=
  [o.c0.toWord op, o.v0.toWord, o.c1.toWord 0#8, o.v1.toWord, o.c2.toWord 0#8, o.v2.toWord, o.c3.toWord 0#8,
   o.v3.toWord]

/-- The words of a command of this shape, the opcode given. -/
def PolyGT4.toWords (op : BitVec 8) (o : PolyGT4) : List Word :=
  [o.c0.toWord op, o.v0.toWord, o.t0.toWord o.clut.attr, o.c1.toWord 0#8, o.v1.toWord, o.t1.toWord o.page.attr,
   o.c2.toWord 0#8, o.v2.toWord, o.t2.toWord 0#32, o.c3.toWord 0#8, o.v3.toWord, o.t3.toWord 0#32]

/-- The words of a command of this shape, the opcode given. -/
def LineF.toWords (op : BitVec 8) (o : LineF) : List Word :=
  [o.c.toWord op, o.a.toWord, o.b.toWord]

/-- The words of a command of this shape, the opcode given. -/
def LineG.toWords (op : BitVec 8) (o : LineG) : List Word :=
  [o.c0.toWord op, o.a.toWord, o.c1.toWord 0#8, o.b.toWord]

/-- The words of a command of this shape, the opcode given. -/
def RectV.toWords (op : BitVec 8) (o : RectV) : List Word :=
  [o.c.toWord op, o.pos.toWord, o.size.toWord]

/-- The words of a command of this shape, the opcode given. -/
def RectTV.toWords (op : BitVec 8) (o : RectTV) : List Word :=
  [o.c.toWord op, o.pos.toWord, o.t.toWord o.clut.attr, o.size.toWord]

/-- The words of a command of this shape, the opcode given. -/
def RectS.toWords (op : BitVec 8) (o : RectS) : List Word :=
  [o.c.toWord op, o.pos.toWord]

/-- The words of a command of this shape, the opcode given. -/
def RectTS.toWords (op : BitVec 8) (o : RectTS) : List Word :=
  [o.c.toWord op, o.pos.toWord, o.t.toWord o.clut.attr]

/-- The words of a command of this shape, the opcode given. -/
def Fill.toWords (op : BitVec 8) (o : Fill) : List Word :=
  [o.c.toWord op, o.pos.toWord, o.size.toWord]

/-- The words of a command of this shape, the opcode given. -/
def CopyVV.toWords (op : BitVec 8) (o : CopyVV) : List Word :=
  [opWord op, o.src.toWord, o.dst.toWord, o.size.toWord]

/-- The words of a command of this shape, the opcode given. -/
def CopyXfer.toWords (op : BitVec 8) (o : CopyXfer) : List Word :=
  [opWord op, o.pos.toWord, o.size.toWord]

/-- The words of an instruction. -/
def encode : Instr → List Word
  | .nop => [opWord 0x00#8]
  | .clrCache => [opWord 0x01#8]
  | .fill o => o.toWords 0x02#8
  | .irq => [opWord 0x1F#8]
  | .polyF3 o => o.toWords 0x20#8
  | .polyF3At21 o => o.toWords 0x21#8
  | .polyF3S o => o.toWords 0x22#8
  | .polyF3SAt23 o => o.toWords 0x23#8
  | .polyFT3 o => o.toWords 0x24#8
  | .polyFT3R o => o.toWords 0x25#8
  | .polyFT3S o => o.toWords 0x26#8
  | .polyFT3SR o => o.toWords 0x27#8
  | .polyF4 o => o.toWords 0x28#8
  | .polyF4At29 o => o.toWords 0x29#8
  | .polyF4S o => o.toWords 0x2A#8
  | .polyF4SAt2b o => o.toWords 0x2B#8
  | .polyFT4 o => o.toWords 0x2C#8
  | .polyFT4R o => o.toWords 0x2D#8
  | .polyFT4S o => o.toWords 0x2E#8
  | .polyFT4SR o => o.toWords 0x2F#8
  | .polyG3 o => o.toWords 0x30#8
  | .polyG3At31 o => o.toWords 0x31#8
  | .polyG3S o => o.toWords 0x32#8
  | .polyG3SAt33 o => o.toWords 0x33#8
  | .polyGT3 o => o.toWords 0x34#8
  | .polyGT3R o => o.toWords 0x35#8
  | .polyGT3S o => o.toWords 0x36#8
  | .polyGT3SR o => o.toWords 0x37#8
  | .polyG4 o => o.toWords 0x38#8
  | .polyG4At39 o => o.toWords 0x39#8
  | .polyG4S o => o.toWords 0x3A#8
  | .polyG4SAt3b o => o.toWords 0x3B#8
  | .polyGT4 o => o.toWords 0x3C#8
  | .polyGT4R o => o.toWords 0x3D#8
  | .polyGT4S o => o.toWords 0x3E#8
  | .polyGT4SR o => o.toWords 0x3F#8
  | .lineF o => o.toWords 0x40#8
  | .lineFAt41 o => o.toWords 0x41#8
  | .lineFS o => o.toWords 0x42#8
  | .lineFSAt43 o => o.toWords 0x43#8
  | .lineFAt44 o => o.toWords 0x44#8
  | .lineFAt45 o => o.toWords 0x45#8
  | .lineFSAt46 o => o.toWords 0x46#8
  | .lineFSAt47 o => o.toWords 0x47#8
  | .polyline48 => [opWord 0x48#8]
  | .polyline49 => [opWord 0x49#8]
  | .polyline4a => [opWord 0x4A#8]
  | .polyline4b => [opWord 0x4B#8]
  | .polyline4c => [opWord 0x4C#8]
  | .polyline4d => [opWord 0x4D#8]
  | .polyline4e => [opWord 0x4E#8]
  | .polyline4f => [opWord 0x4F#8]
  | .lineG o => o.toWords 0x50#8
  | .lineGAt51 o => o.toWords 0x51#8
  | .lineGS o => o.toWords 0x52#8
  | .lineGSAt53 o => o.toWords 0x53#8
  | .lineGAt54 o => o.toWords 0x54#8
  | .lineGAt55 o => o.toWords 0x55#8
  | .lineGSAt56 o => o.toWords 0x56#8
  | .lineGSAt57 o => o.toWords 0x57#8
  | .polyline58 => [opWord 0x58#8]
  | .polyline59 => [opWord 0x59#8]
  | .polyline5a => [opWord 0x5A#8]
  | .polyline5b => [opWord 0x5B#8]
  | .polyline5c => [opWord 0x5C#8]
  | .polyline5d => [opWord 0x5D#8]
  | .polyline5e => [opWord 0x5E#8]
  | .polyline5f => [opWord 0x5F#8]
  | .rectV o => o.toWords 0x60#8
  | .rectVAt61 o => o.toWords 0x61#8
  | .rectVS o => o.toWords 0x62#8
  | .rectVSAt63 o => o.toWords 0x63#8
  | .rectTV o => o.toWords 0x64#8
  | .rectTVR o => o.toWords 0x65#8
  | .rectTVS o => o.toWords 0x66#8
  | .rectTVSR o => o.toWords 0x67#8
  | .rect1 o => o.toWords 0x68#8
  | .rect1At69 o => o.toWords 0x69#8
  | .rect1S o => o.toWords 0x6A#8
  | .rect1SAt6b o => o.toWords 0x6B#8
  | .rectT1 o => o.toWords 0x6C#8
  | .rectT1R o => o.toWords 0x6D#8
  | .rectT1S o => o.toWords 0x6E#8
  | .rectT1SR o => o.toWords 0x6F#8
  | .rect8 o => o.toWords 0x70#8
  | .rect8At71 o => o.toWords 0x71#8
  | .rect8S o => o.toWords 0x72#8
  | .rect8SAt73 o => o.toWords 0x73#8
  | .rectT8 o => o.toWords 0x74#8
  | .rectT8R o => o.toWords 0x75#8
  | .rectT8S o => o.toWords 0x76#8
  | .rectT8SR o => o.toWords 0x77#8
  | .rect16 o => o.toWords 0x78#8
  | .rect16At79 o => o.toWords 0x79#8
  | .rect16S o => o.toWords 0x7A#8
  | .rect16SAt7b o => o.toWords 0x7B#8
  | .rectT16 o => o.toWords 0x7C#8
  | .rectT16R o => o.toWords 0x7D#8
  | .rectT16S o => o.toWords 0x7E#8
  | .rectT16SR o => o.toWords 0x7F#8
  | .copyVV o => o.toWords 0x80#8
  | .copyCV o => o.toWords 0xA0#8
  | .copyVC o => o.toWords 0xC0#8
  | .drawMode o => [o.toWord 0xE1#8]
  | .texWin o => [o.toWord 0xE2#8]
  | .areaTL o => [o.toWord 0xE3#8]
  | .areaBR o => [o.toWord 0xE4#8]
  | .offset o => [o.toWord 0xE5#8]
  | .maskSet o => [o.toWord 0xE6#8]
  | .g1Reset => [opWord 0x00#8]
  | .g1ClrQ => [opWord 0x01#8]
  | .g1AckIrq => [opWord 0x02#8]
  | .g1DispEn o => [o.toWord 0x03#8]
  | .g1DmaDir o => [o.toWord 0x04#8]
  | .g1DispStart o => [o.toWord 0x05#8]
  | .g1HRange o => [o.toWord 0x06#8]
  | .g1VRange o => [o.toWord 0x07#8]
  | .g1DispMode o => [o.toWord 0x08#8]
  | .g1GetInfo o => [o.toWord 0x10#8]

/-! ### The opcode table's own numbering -/

/-- Longest command, `MAX_CMD_WORDS` (R10). -/
def maxCmdWords : Nat := 12

/-- The words of a table word of `nbits` bits, least significant word first, zero above `nbits`. -/
def tableWords (nbits w : Nat) : List Word :=
  (List.range maxCmdWords).map fun k => BitVec.ofNat 32 ((w % 2 ^ nbits) >>> (32 * k))

/-- A table word carries no channel: it is taken as a GP0 word when its opcode is in the GP0 table, and as a GP1
word otherwise (log 15). -/
def tableChannel (ws : List Word) : Channel :=
  match ws with
  | [] => .gp0
  | w :: _ =>
    if (gp0Words (opcodeOf w)).isSome || isPolyline (opcodeOf w) then .gp0
    else if (buildGp1 w).isSome then .gp1
    else .gp0

/-- The instruction the decoder reads from an instruction whose bits are `w`, numbered as the opcode table numbers
them. -/
def decodeTableWord (nbits w : Nat) : Option Instr :=
  let ws := tableWords nbits w
  match decode (tableChannel ws) ws with
  | .ok (i, _) => some i
  | .error _ => none

end Sys2Proof
end

