-- ==== Sys2Proof/Machine/State.lean ====
section
/-! DEFINITION. The state of the block as plain data (`spec/10_state.md` R20 to R41), the reasons a step can stop,
and the state at power-on (`spec/70_reset_and_hazards.md` R580, R582). -/

namespace Sys2Proof.Machine

/-- The two ports (`spec/20_memory.md` R90). -/
inductive Port where
  | gpuData
  | gpuControl
  deriving DecidableEq, Repr, Inhabited

/-- The features the block does not support (`spec/60_exceptions.md` R542). -/
inductive Feature where
  /-- R322. -/
  | polyline
  /-- R431. -/
  | zeroSizeTransfer
  /-- R493. -/
  | reverseFlag
  deriving DecidableEq, Repr, Inhabited

/-- The faults of R542, each with the information the block records. All are fatal: `raise` stores one in
`State.halted`, and the step of a halted state answers it (R545, log 2). Stopping there is safe: the spec gives a
halted block no step. -/
inductive Fault where
  /-- Raised by the event `badAccess` (R103). Safe: the spec says it is always fatal. -/
  | misalignedAccess (port : Port) (width : Nat)
  /-- Raised by nothing in this block; the name is kept for the bus side (R104). Safe: it never occurs. -/
  | readOnlyBitAsserted
  /-- Raised by `feed` and by a write to GPU_CONTROL (R163, R192, R480). Safe: the spec says it is fatal. -/
  | unknownOpcode (ch : Channel) (op : BitVec 8)
  /-- Raised by polylines, zero-size copies and the reverse flag (R322, R431, R493). Safe: the spec says it is
  fatal. -/
  | unsupportedFeature (feature : Feature) (op : BitVec 8)
  /-- Raised by every VRAM primitive outside the grid (R98). Safe: the spec faults where the console wraps. -/
  | vramAddressOutOfRange (x y : Int)
  deriving DecidableEq, Repr, Inhabited

/-- Why the model has no next state for a step the block might take. -/
inductive Refusal where
  /-- Raised by an arm of `exec` that has no meaning yet. Safe. -/
  | notModelled (mnemonic : String)
  /-- Raised by a tick of more than 2167 cycles, in which more than one line could end: "outside the spec" (R514),
ruling `refuse` (`spec/93_implementation_defined.md` I12; log 13). Safe. -/
  | tickTooLong (cycles : Nat)
  /-- Raised by a queued command whose words are no command; the decoder queues none (R195, R198, log 12). Safe. -/
  | malformedJob (ws : List Word)
  deriving DecidableEq, Repr, Inhabited

/-- The stored fields of the Status word, GPUSTAT (R25). Bits 13, 14 and 25 are not stored (R28, R29, R30); bit 31
is `Timing.oddField`. -/
structure Status where
  /-- bits 3:0 -/
  texPageX : BitVec 4
  /-- bit 4 -/
  texPageY : BitVec 1
  /-- bits 6:5 -/
  semiMode : BitVec 2
  /-- bits 8:7 -/
  texDepth : BitVec 2
  /-- bit 9 -/
  dither : Bool
  /-- bit 10 -/
  drawToDisplay : Bool
  /-- bit 11 -/
  setMask : Bool
  /-- bit 12 -/
  checkMask : Bool
  /-- bit 15 -/
  texDisable : Bool
  /-- bit 16 -/
  hres2 : Bool
  /-- bits 18:17 -/
  hres1 : BitVec 2
  /-- bit 19 -/
  vres : Bool
  /-- bit 20: false is NTSC, true is PAL -/
  videoMode : Bool
  /-- bit 21 -/
  depth24 : Bool
  /-- bit 22 -/
  vInterlace : Bool
  /-- bit 23: true is off -/
  displayDisabled : Bool
  /-- bit 24 -/
  irq : Bool
  /-- bit 26 -/
  readyCmd : Bool
  /-- bit 27 -/
  readySend : Bool
  /-- bit 28 -/
  readyDma : Bool
  /-- bits 30:29 -/
  dmaDir : BitVec 2
  deriving DecidableEq, Repr, Inhabited

/-- The drawing environment (R33). `areaRight` and `areaBottom` are coordinates, not dimensions; `offX` and `offY`
are signed; the pre-masks keep the 8 bits the sampler uses, as R465 of `spec/47_gp0_draw_environment.md` allows. -/
structure DrawEnv where
  areaLeft : BitVec 10
  areaTop : BitVec 9
  areaRight : BitVec 10
  areaBottom : BitVec 9
  offX : BitVec 11
  offY : BitVec 11
  twRaw : BitVec 20
  preMaskX : BitVec 8
  preMaskY : BitVec 8
  postMaskX : BitVec 8
  postMaskY : BitVec 8
  flipX : Bool
  flipY : Bool
  deriving DecidableEq, Repr, Inhabited

/-- The display registers (R35). -/
structure Disp where
  startX : BitVec 10
  startY : BitVec 9
  x1 : BitVec 12
  x2 : BitVec 12
  y1 : BitVec 10
  y2 : BitVec 10
  deriving DecidableEq, Repr, Inhabited

/-- The decoder state, the block's sequencing state (R21, R22). -/
inductive Dec where
  /-- No command is being assembled. -/
  | idle
  /-- `words`, oldest first, are the words received of the `need` words of opcode `op`. -/
  | collect (op : BitVec 8) (need : Nat) (words : List Word)
  /-- `rem` data words of a CPU to VRAM copy are still to come. -/
  | dataIn (rem : Nat)
  deriving DecidableEq, Repr, Inhabited

/-- A job of the command queue (R36). -/
inductive Job where
  /-- A complete command with its words (R196). -/
  | cmd (ws : List Word)
  /-- One data word of a CPU to VRAM copy (R197). -/
  | data (w : Word)
  deriving DecidableEq, Repr, Inhabited

/-- A transfer cursor: a rectangle and how many of its pixels have been moved (R38). -/
structure Xfer where
  x : BitVec 16
  y : BitVec 16
  w : BitVec 16
  h : BitVec 16
  n : Nat
  deriving DecidableEq, Repr, Inhabited

/-- The display timing counters (R40). -/
structure Timing where
  videoCycles : Nat
  scanline : Nat
  oddField : Bool
  deriving DecidableEq, Repr, Inhabited

/-- What the outside world can do to the block, one event at a time (`spec/00_scope.md` R8). The list of events in
`State.events` is the schedule of the three agents and the command stream (log 3). -/
inductive Event where
  /-- A 32-bit write to GPU_DATA (R100). -/
  | writeData (w : Word)
  /-- A 32-bit write to GPU_CONTROL (R101). -/
  | writeControl (w : Word)
  /-- A 32-bit read of GPU_DATA (R102). -/
  | readData
  /-- A 32-bit read of GPU_CONTROL (R105). -/
  | readControl
  /-- An access that is not 32 bits wide and 32-bit aligned (R103). -/
  | badAccess (port : Port) (width : Nat)
  /-- One DMA burst towards the block (R115). -/
  | dmaBlock (ws : List Word)
  /-- A DMA transfer from the block, one word to each address of main memory (R116). -/
  | dmaBlockRead (addrs : List Nat)
  /-- A linked-list DMA transfer from the header at `addr` on (R117); an address that is no multiple of 4 is
log 26. -/
  | dmaLinkedList (addr : BitVec 24)
  /-- One tick of `cycles` CPU cycles (R510). -/
  | tick (cycles : Nat)
  /-- The executor agent runs one job (R202). -/
  | execStep
  deriving DecidableEq, Repr, Inhabited

/-- What the block shows its collaborators (`spec/00_scope.md` R9). `irq1` and the effective resolution are
functions of state and are not listed. -/
inductive Output where
  /-- The value a read of GPU_DATA returned (R102). -/
  | readData (w : Word)
  /-- The value a read of GPU_CONTROL returned (R105). -/
  | readControl (w : Word)
  /-- R520. -/
  | vblankPulse
  /-- The sample the timer collaborator reads in a tick (R522). -/
  | sample (dotDiv : Nat) (hblank vblank : Bool)
  /-- The end of a linked-list transfer (R118). -/
  | dmaDone
  deriving DecidableEq, Repr, Inhabited

/-- VRAM: the pixels written so far by pixel number `y * 1024 + x`, rising; both stores of a pixel stand together,
since every write updates both (R41, R96, R97). An unlisted pixel reads as INIT_VRAM (log 5, log 6). -/
abbrev Vram := List (Nat × Pixel)

/-- Main memory behind `MemRead` and `MemWrite` (`spec/20_memory.md` R90 (c), R116, R117): the bytes written so far
by address, rising. An unlisted byte reads as a free value (log 8). -/
abbrev Memory := List Host.Cell

/-- The canonical form of VRAM: strictly rising pixel numbers inside the grid (R91). -/
abbrev Vram.wf (v : Vram) : Prop := (v.map Prod.fst).Pairwise (· < ·) ∧ ∀ k ∈ v.map Prod.fst, k < 1024 * 512

/-- The canonical form of main memory: strictly rising addresses. -/
abbrev Memory.wf (m : Memory) : Prop := (m.map Prod.fst).Pairwise (· < ·)

/-- The whole state. The fields from `vram` to `halted` are the tuple of R20; the fields from `events` on are the
model's own (logs 3, 4, 7, 8, 9). -/
structure State where
  vram : Vram
  st : Status
  env : DrawEnv
  disp : Disp
  dec : Dec
  queue : List Job
  xferIn : Option Xfer
  xferOut : Option Xfer
  gpuread : Word
  tim : Timing
  halted : Option Fault
  /-- The events still to come, the next one first. -/
  events : List Event
  /-- What the block has shown, the newest first. -/
  outputs : List Output
  /-- Main memory, the DMA collaborator's. -/
  mainMem : Memory
  /-- The data phase in progress is being fed by the CPU (R109). -/
  inByCpu : Bool
  /-- The readback in progress is being drained by the CPU (R109). -/
  outByCpu : Bool
  /-- How often GPUSTAT bit 13 has been drawn afresh (R28). -/
  draws : Nat
  deriving DecidableEq, Repr, Inhabited

/-- Status at power-on and after GP1 00 (R32). -/
def Status.reset : Status :=
  { texPageX := 0, texPageY := 0, semiMode := 0, texDepth := 0, dither := false, drawToDisplay := false,
    setMask := false, checkMask := false, texDisable := false, hres2 := false, hres1 := 0, vres := false,
    videoMode := false, depth24 := false, vInterlace := false, displayDisabled := true, irq := false,
    readyCmd := true, readySend := false, readyDma := true, dmaDir := 0 }

/-- The drawing environment at power-on and after GP1 00 (R33, R582). -/
def DrawEnv.reset : DrawEnv :=
  { areaLeft := 0, areaTop := 0, areaRight := 0, areaBottom := 0, offX := 0, offY := 0, twRaw := 0,
    preMaskX := 0xFF#8, preMaskY := 0xFF#8, postMaskX := 0, postMaskY := 0, flipX := false, flipY := false }

/-- The display registers at power-on and after GP1 00 (R35). -/
def Disp.reset : Disp := { startX := 0, startY := 0, x1 := 0x200, x2 := 0xC00, y1 := 0x10, y2 := 0x100 }

/-- Power-on (R580, R582). -/
def State.reset : State :=
  { vram := [], st := Status.reset, env := DrawEnv.reset, disp := Disp.reset, dec := .idle, queue := [],
    xferIn := none, xferOut := none, gpuread := 0, tim := ⟨0, 0, false⟩, halted := none,
    events := [], outputs := [], mainMem := [], inByCpu := false, outByCpu := false, draws := 0 }

end Sys2Proof.Machine
end

