-- ==== Sys2Proof/Machine/Ops.lean ====
section
/-! DEFINITION. The operations every command and port event is written with: raising a fault, the two VRAM
stores, the pixel loops, the command queue, main memory. -/

namespace Sys2Proof.Machine

/-- What a meaning, an event or a step answers. -/
abbrev Result := Host.Outcome State Fault Refusal

/-! ### Faults (`spec/60_exceptions.md` R545) -/

/-- `raise F(info)`: the one way into the halted state. Nothing else is written: no state is saved anywhere, there
is no vector and no mode (R545), and every assignment made before stays (R543). -/
def raise (f : Fault) (s : State) : State := { s with halted := some f }

/-! There is no return from a fault: no command clears `halted` (R546). -/

/-- Neither the event nor the job has raised a fault. -/
def live (s : State) : Bool := s.halted.isNone

/-- Sequencing inside an event: what comes after a fault does not run (R15). -/
def andThen (o : Result) (f : State → Result) : Result :=
  match o with
  | .next s => if live s then f s else .next s
  | .fault e => .fault e
  | .refused e => .refused e

/-! ### Pixel formats (`spec/20_memory.md` R92 to R95) -/

/-- `narrow`: each channel cut to its top five bits (R94). -/
def narrow (c : C24) : P15 :=
  BitVec.ofBool c.m ++ c.b.extractLsb' 3 5 ++ c.g.extractLsb' 3 5 ++ c.r.extractLsb' 3 5

/-- `widen`: each 5-bit channel becomes the top five bits of an 8-bit one (R95). -/
def widen (p : P15) : C24 :=
  { m := p.getLsbD 15, r := p.extractLsb' 0 5 ++ 0#3, g := p.extractLsb' 5 5 ++ 0#3, b := p.extractLsb' 10 5 ++ 0#3 }

/-- `pack32`, the form in which a pixel is printed (R16, R93). -/
def pack32 (c : C24) : Word := placeBit 24 c.m ||| place 16 c.r ||| place 8 c.g ||| place 0 c.b

/-! ### Sparse data by number, rising -/

/-- What is listed at a number. -/
def cellAt {α : Type} (k : Nat) : List (Nat × α) → Option α
  | [] => none
  | (j, v) :: t => if j = k then some v else cellAt k t

/-- The list with `v` at number `k`, in the canonical form. -/
def putCell {α : Type} (k : Nat) (v : α) : List (Nat × α) → List (Nat × α)
  | [] => [(k, v)]
  | (j, w) :: t =>
    if k < j then (k, v) :: (j, w) :: t
    else if k = j then (k, v) :: t
    else (j, w) :: putCell k v t

/-! ### VRAM (`spec/20_memory.md` R91, R96 to R98) -/

/-- The pixel number of `(x, y)`, none outside the grid (R91, R98). -/
def pixelNo (x y : Int) : Option Nat :=
  if 0 ≤ x ∧ x < 1024 ∧ 0 ≤ y ∧ y < 512 then some (y.toNat * 1024 + x.toNat) else none

/-- What VRAM holds at a pixel number; INIT_VRAM where nothing has been written (R41). -/
def pixelOf (s : State) (k : Nat) : Pixel :=
  match cellAt k s.vram with
  | some p => p
  | none => ⟨Config.initVram24 k, Config.initVram15 k⟩

/-- Both stores at `(x, y)`, or the fault of R98. -/
def pixelAt (s : State) (x y : Int) : Except Fault Pixel :=
  match pixelNo x y with
  | some k => .ok (pixelOf s k)
  | none => .error (.vramAddressOutOfRange x y)

/-- Write both stores at `(x, y)` as one update, or raise the fault of R98. -/
def setPixel (x y : Int) (p : Pixel) (s : State) : State :=
  match pixelNo x y with
  | some k => { s with vram := putCell k p s.vram }
  | none => raise (.vramAddressOutOfRange x y) s

/-- `SetPix24`: the source value is a 24-bit colour (R96). -/
def setPix24 (x y : Int) (c : C24) (s : State) : State := setPixel x y ⟨c, narrow c⟩ s

/-- `SetPix15`: the source value is a 15-bit word (R97). -/
def setPix15 (x y : Int) (p : P15) (s : State) : State := setPixel x y ⟨widen p, p⟩ s

/-! ### Loops of a job: an iteration after a fault does not run (R15, R543) -/

/-- `for i in 0 ..< n`. -/
def forCount (n : Nat) (f : Nat → State → State) (s : State) : State :=
  (List.range n).foldl (fun t i => if live t then f i t else t) s

/-- `for j in 0 ..< h: for i in 0 ..< w`: rows top to bottom, each row left to right. -/
def forGrid (w h : Nat) (f : Nat → Nat → State → State) (s : State) : State :=
  forCount h (fun j => forCount w (fun i => f i j)) s

/-! ### The command queue (`spec/40_gp0_decoder_fsm.md` R201) -/

/-- `enqueue(job)`: append at the tail. -/
def enqueue (j : Job) (s : State) : State := { s with queue := s.queue ++ [j] }

/-! ### Main memory (`spec/00_scope.md` R14, `spec/20_memory.md` R106) -/

/-- One byte of main memory. -/
def ramByte (m : Memory) (a : Nat) : Byte :=
  match cellAt a m with
  | some b => b
  | none => Config.initRam a

/-- `MemRead(addr, 4)`, the byte at the lowest address least significant (R14; PRESUMED, log 8). -/
def memRead (m : Memory) (a : Nat) : Word :=
  place 24 (ramByte m (a + 3)) ||| place 16 (ramByte m (a + 2)) ||| place 8 (ramByte m (a + 1)) |||
    place 0 (ramByte m a)

/-- `MemWrite(addr, 4, v)`, the byte at the lowest address least significant (R14; PRESUMED, log 8). -/
def memWrite (m : Memory) (a : Nat) (v : Word) : Memory :=
  putCell (a + 3) (bits v 24 8) (putCell (a + 2) (bits v 16 8) (putCell (a + 1) (bits v 8 8)
    (putCell a (bits v 0 8) m)))

/-! ### Outputs (`spec/00_scope.md` R9) -/

/-- Show a collaborator something. -/
def emit (o : Output) (s : State) : State := { s with outputs := o :: s.outputs }

end Sys2Proof.Machine
end

