-- ==== Sys2Proof/Machine/Control.lean ====
section
/-! DEFINITION. The GP1 control commands (`spec/48_gp1_control.md`). -/

namespace Sys2Proof.Machine

/-- `GPU_TYPE_INFO` (R10). -/
def gpuTypeInfo : Word := 2#32

/-- `G1_RESET`: VRAM, `dec`, `xferIn`, `gpuread` and the timing counters are kept (R482). A cancelled readback is
drained by nobody (R109, log 9). -/
def execG1Reset (s : State) : Result :=
  .next { s with
    queue := [], st := Status.reset, env := DrawEnv.reset, disp := Disp.reset, xferOut := none, outByCpu := false }

/-- `G1_CLRQ`: the queue only (R483). -/
def execG1ClrQ (s : State) : Result := .next { s with queue := [] }

/-- `G1_ACKIRQ` (R484). -/
def execG1AckIrq (s : State) : Result := .next { s with st := { s.st with irq := false } }

/-- `G1_DISPEN` (R486). -/
def execG1DispEn (o : DispEn) (s : State) : Result := .next { s with st := { s.st with displayDisabled := o.off } }

/-- `G1_DMADIR` (R488). -/
def execG1DmaDir (o : DmaDir) (s : State) : Result := .next { s with st := { s.st with dmaDir := o.dir } }

/-- `G1_DISPSTART` (R489). -/
def execG1DispStart (o : DispStart) (s : State) : Result :=
  .next { s with disp := { s.disp with startX := o.x, startY := o.y } }

/-- `G1_HRANGE` (R490). -/
def execG1HRange (o : HRange) (s : State) : Result := .next { s with disp := { s.disp with x1 := o.x1, x2 := o.x2 } }

/-- `G1_VRANGE` (R491). -/
def execG1VRange (o : VRange) (s : State) : Result := .next { s with disp := { s.disp with y1 := o.y1, y2 := o.y2 } }

/-- `G1_DISPMODE`: the reverse flag is refused before any field is written (R492, R493). -/
def execG1DispMode (o : DispMode) (s : State) : Result :=
  .next
    (if o.reverse then raise (.unsupportedFeature .reverseFlag 0x08#8) s
    else { s with
      st := { s.st with
        hres1 := o.hres1, vres := o.vres, videoMode := o.videoMode, depth24 := o.depth24,
        vInterlace := o.vInterlace, hres2 := o.hres2 } })

/-- The reply of `G1_GETINFO`, none where the index has no reply (R496, R163 (e)). -/
def gpuInfo (s : State) (index : BitVec 4) : Option Word :=
  match index.toNat with
  | 2 => some (place 0 s.env.twRaw)
  | 3 => some (place 10 s.env.areaTop ||| place 0 s.env.areaLeft)
  | 4 => some (place 10 s.env.areaBottom ||| place 0 s.env.areaRight)
  | 5 => some (place 11 s.env.offY ||| place 0 s.env.offX)
  | 7 => some gpuTypeInfo
  | 8 => some 0#32
  | _ => none

/-- `G1_GETINFO` (R496). -/
def execG1GetInfo (o : GetInfo) (s : State) : Result := .next { s with gpuread := (gpuInfo s o.index).getD s.gpuread }

end Sys2Proof.Machine
end

