-- ==== Sys2Proof/Machine/Environment.lean ====
section
/-! DEFINITION. The drawing-environment commands GP0 E1 to E6 (`spec/47_gp0_draw_environment.md`). Each replaces the
fields it names as a whole and keeps the others (R461). -/

namespace Sys2Proof.Machine

/-- `preMask = ~(mask · 8)` in the 8 bits the sampler uses (R465). -/
def preMask (mask : BitVec 5) : BitVec 8 := ~~~(mask ++ 0#3)

/-- `postMask = (offset & mask) · 8` (R465). -/
def postMask (offset mask : BitVec 5) : BitVec 8 := (offset &&& mask) ++ 0#3

/-- The four texture-window fields as written, bits 19:0 of the `E2` word (R465, R158). -/
def twRawOf (o : TexWin) : BitVec 20 := bits (o.toWord 0#8) 0 20

/-- `DRAWMODE` (R462). -/
def execDrawMode (o : DrawMode) (s : State) : Result :=
  .next { s with
    st := { s.st with
      texPageX := o.texPageX, texPageY := o.texPageY, semiMode := o.semiMode, texDepth := o.texDepth,
      dither := o.dither, drawToDisplay := o.drawToDisplay, texDisable := o.texDisable }
    env := { s.env with flipX := o.flipX, flipY := o.flipY } }

/-- `TEXWIN` (R465). -/
def execTexWin (o : TexWin) (s : State) : Result :=
  .next { s with
    env := { s.env with
      twRaw := twRawOf o, preMaskX := preMask o.maskX, preMaskY := preMask o.maskY,
      postMaskX := postMask o.offsetX o.maskX, postMaskY := postMask o.offsetY o.maskY } }

/-- `AREA_TL` (R466). -/
def execAreaTL (o : Corner) (s : State) : Result :=
  .next { s with env := { s.env with areaLeft := o.x, areaTop := o.y } }

/-- `AREA_BR`: coordinates, not dimensions (R467). -/
def execAreaBR (o : Corner) (s : State) : Result :=
  .next { s with env := { s.env with areaRight := o.x, areaBottom := o.y } }

/-- `OFFSET` (R468). -/
def execOffset (o : Offset) (s : State) : Result :=
  .next { s with env := { s.env with offX := o.x, offY := o.y } }

/-- `MASKSET` (R470). -/
def execMaskSet (o : MaskSet) (s : State) : Result :=
  .next { s with st := { s.st with setMask := o.setMask, checkMask := o.checkMask } }

end Sys2Proof.Machine
end

