-- ==== Sys2Proof/Machine/Operands.lean ====
section
/-! DEFINITION. What the operand forms stand for when a job runs: signed coordinates plus the drawing offset, the
scaled CLUT and page origins, rectangle sizes, the drawing-area test and the per-vertex clamp
(`spec/30_encoding.md` R144 to R149, R165; `spec/41_gp0_polygons.md` R233, R234; `spec/10_state.md` R34). -/

namespace Sys2Proof.Machine

/-- `vx(w) + env.offX`, not wrapped back to 11 bits (R233, R298, R338). -/
def vertexX (s : State) (v : Vertex) : Int := v.x.toInt + s.env.offX.toInt

/-- `vy(w) + env.offY`, not wrapped back to 11 bits (R233, R298, R338). -/
def vertexY (s : State) (v : Vertex) : Int := v.y.toInt + s.env.offY.toInt

/-- `InArea(x, y)`: the drawing area is half-open (R34). -/
def inArea (e : DrawEnv) (x y : Int) : Bool :=
  decide ((e.areaLeft.toNat : Int) ≤ x ∧ x < (e.areaRight.toNat : Int) ∧
    (e.areaTop.toNat : Int) ≤ y ∧ y < (e.areaBottom.toNat : Int))

/-- The texture attributes a textured primitive draws with (R244, R335). -/
structure TexAttr where
  clutX : Nat
  clutY : Nat
  pageX : Nat
  pageY : Nat
  depth : BitVec 2
  raw : Bool
  deriving DecidableEq, Repr

/-- `clutX(w)`, in units of 16 pixels (R146). -/
def clutColumn (c : Clut) : Nat := c.x.toNat * 16

/-- `clutY(w)` (R146). -/
def clutRow (c : Clut) : Nat := c.y.toNat

/-- `pageX`, in units of 64 pixels (R147, R336). -/
def pageColumn (x : BitVec 4) : Nat := x.toNat * 64

/-- `pageY`, in units of 256 rows (R147, R336). -/
def pageRow (y : BitVec 1) : Nat := y.toNat * 256

/-- The attributes of a textured polygon: CLUT from the first texture word, page from the second (R235). -/
def polyTex (c : Clut) (p : Page) (raw : Bool) : TexAttr :=
  ⟨clutColumn c, clutRow c, pageColumn p.x, pageRow p.y, p.depth, raw⟩

/-- The attributes of a textured rectangle: page and depth come from Status (R336). -/
def rectTex (s : State) (c : Clut) (raw : Bool) : TexAttr :=
  ⟨clutColumn c, clutRow c, pageColumn s.st.texPageX, pageRow s.st.texPageY, s.st.texDepth, raw⟩

/-- A polygon vertex: position, texture coordinate and colour. Coordinates are unbounded (R234). -/
structure PVertex where
  x : Int
  y : Int
  u : Int
  v : Int
  c : Rgb
  deriving DecidableEq, Repr

/-- A vertex of an untextured polygon, `t[k] = (0, 0)` (R231). -/
def plainVertex (s : State) (v : Vertex) (c : Rgb) : PVertex := ⟨vertexX s v, vertexY s v, 0, 0, c⟩

/-- A vertex of a textured polygon (R231). -/
def texVertex (s : State) (v : Vertex) (t : TexCoord) (c : Rgb) : PVertex :=
  ⟨vertexX s v, vertexY s v, t.u.toNat, t.v.toNat, c⟩

/-- One axis of `ClampVertex`: the coordinate is moved to the low bound, then to the high bound, and the texture
coordinate by the same delta (R234). -/
def clampAxis (lo hi p t : Int) : Int × Int :=
  let a := if p < lo then (lo, t + (lo - p)) else (p, t)
  if a.1 > hi then (hi, a.2 + (hi - a.1)) else a

/-- `ClampVertex`: X before Y, low bound before high bound; the X delta goes to U, the Y delta to V (R234). -/
def clampVertex (e : DrawEnv) (p : PVertex) : PVertex :=
  let cx := clampAxis e.areaLeft.toNat e.areaRight.toNat p.x p.u
  let cy := clampAxis e.areaTop.toNat e.areaBottom.toNat p.y p.v
  { x := cx.1, y := cy.1, u := cx.2, v := cy.2, c := p.c }

/-- The side of a fixed-size rectangle, by the opcode's size field (R332). -/
def fixedSide (size : Nat) : Nat :=
  match size with
  | 1 => 1
  | 2 => 8
  | 3 => 16
  | _ => 0

end Sys2Proof.Machine
end

