-- ==== Sys2Proof/Machine/Pixel.lean ====
section
/-! DEFINITION. The texture sampler, the blender and the per-pixel pipeline that polygons, lines and rectangles
share (`spec/44_texture_sampler.md`, `spec/45_blender_pixel_pipeline.md`). -/

namespace Sys2Proof.Machine

/-! ### The sampler -/

/-- R383 then R382: the coordinate cut to 8 bits, then the texture window. -/
def texelCoord (pre post : BitVec 8) (u : Int) : BitVec 8 := (BitVec.ofInt 8 u &&& pre) ||| post

/-- The 4-bit index of texel `u` in its packed word, the lowest nibble first (R385). -/
def nibbleIndex (word : P15) (u : BitVec 8) : Nat := (word.toNat >>> (u.toNat % 4 * 4)) % 16

/-- The 8-bit index of texel `u` in its packed word, the low byte first (R386). -/
def byteIndex (word : P15) (u : BitVec 8) : Nat := (word.toNat >>> (u.toNat % 2 * 8)) % 256

/-- `Sample(u, v, clut, page, depth)`: both stores at the texel's final location (R381, R385 to R388). Depth code 3
acts as 2 (R384). -/
def sample (s : State) (u v : BitVec 8) (t : TexAttr) : Except Fault Pixel :=
  match t.depth.toNat with
  | 0 =>
    match pixelAt s (t.pageX + u.toNat / 4 : Nat) (t.pageY + v.toNat : Nat) with
    | .error f => .error f
    | .ok w => pixelAt s (t.clutX + nibbleIndex w.p15 u : Nat) t.clutY
  | 1 =>
    match pixelAt s (t.pageX + u.toNat / 2 : Nat) (t.pageY + v.toNat : Nat) with
    | .error f => .error f
    | .ok w => pixelAt s (t.clutX + byteIndex w.p15 u : Nat) t.clutY
  | _ => pixelAt s (t.pageX + u.toNat : Nat) (t.pageY + v.toNat : Nat)

/-! ### The blender -/

/-- One channel of `Modulate` (R406). -/
def modulateChannel (base t : BitVec 8) : BitVec 8 := BitVec.ofNat 8 (min ((base.toNat * t.toNat) >>> 7) 0xFF)

/-- `Modulate(base, t)`: the texel's mask bit passes through (R406). -/
def modulate (base : Rgb) (t : C24) : C24 :=
  { m := t.m, r := modulateChannel base.r t.r, g := modulateChannel base.g t.g, b := modulateChannel base.b t.b }

/-- One channel of `SemiBlend`: background `bg`, foreground `fg` (R408). -/
def semiChannel (mode : BitVec 2) (bg fg : BitVec 8) : BitVec 8 :=
  match mode.toNat with
  | 0 => BitVec.ofNat 8 ((bg.toNat + fg.toNat) >>> 1)
  | 1 => BitVec.ofNat 8 (min (bg.toNat + fg.toNat) 0xFF)
  | 2 => BitVec.ofNat 8 (bg.toNat - fg.toNat)
  | _ => BitVec.ofNat 8 (min (bg.toNat + (fg.toNat >>> 2)) 0xFF)

/-- `SemiBlend(mode, bg, c)`: the mask bit is the foreground's (R408). -/
def semiBlend (mode : BitVec 2) (bg c : C24) : C24 :=
  { m := c.m, r := semiChannel mode bg.r c.r, g := semiChannel mode bg.g c.g, b := semiChannel mode bg.b c.b }

/-! ### The pipeline -/

/-- `texref`: unbounded texture coordinates and the attributes (R244, R335). -/
structure TexRef where
  u : Int
  v : Int
  attr : TexAttr
  deriving DecidableEq, Repr

/-- The colour before semi-transparency and whether it may blend; none is the transparent texel (R400, R403, R405
to R407). -/
def foreground (s : State) (base : Rgb) (tex : Option TexRef) : Except Fault (Option (C24 × Bool)) :=
  match tex with
  | none => .ok (some (⟨false, base.r, base.g, base.b⟩, true))
  | some r =>
    match sample s (texelCoord s.env.preMaskX s.env.postMaskX r.u) (texelCoord s.env.preMaskY s.env.postMaskY r.v)
        r.attr with
    | .error f => .error f
    | .ok p =>
      if p.p15 = 0#16 then .ok none
      else .ok (some (if r.attr.raw then p.c24 else modulate base p.c24, p.c24.m))

/-- The colour a drawn pixel gets, over background `bg` (R400, R404, R408). -/
def blended (st : Status) (bg c : C24) (blend : Bool) : C24 :=
  let c := if blend then semiBlend st.semiMode bg c else c
  { c with m := c.m || st.setMask }

/-- `DrawPixel(x, y, base, texref, semi)` (R400): mask test, sampling, transparent texel, blending, mask-bit OR,
write. The background is read first; `(x, y)` is in the drawing area, so that read cannot fault (R409). -/
def drawPixel (x y : Int) (base : Rgb) (tex : Option TexRef) (semi : Bool) (s : State) : State :=
  match pixelAt s x y with
  | .error f => raise f s
  | .ok bg =>
    if s.st.checkMask && bg.c24.m then s
    else
      match foreground s base tex with
      | .error f => raise f s
      | .ok none => s
      | .ok (some (c, blendable)) => setPix24 x y (blended s.st bg.c24 c (semi && blendable)) s

/-! ### The span a primitive walks -/

/-- `xs ≤ x < xe`, `ys ≤ y < ye` (R240, R340). -/
structure Span where
  xs : Int
  xe : Int
  ys : Int
  ye : Int
  deriving DecidableEq, Repr

/-- The span cut to the drawing area (R240, R340). -/
def clipSpan (e : DrawEnv) (b : Span) : Span :=
  { xs := max b.xs e.areaLeft.toNat, xe := min b.xe e.areaRight.toNat,
    ys := max b.ys e.areaTop.toNat, ye := min b.ye e.areaBottom.toNat }

/-- Visit the span, rows top to bottom, each row left to right (R245, R337). -/
def forSpan (b : Span) (f : Int → Int → State → State) (s : State) : State :=
  forGrid (b.xe - b.xs).toNat (b.ye - b.ys).toNat (fun i j => f (b.xs + i) (b.ys + j)) s

end Sys2Proof.Machine
end

