-- ==== Sys2Proof/Machine/Line.lean ====
section
/-! DEFINITION. The 16 single-line commands and the 16 polyline opcodes (`spec/42_gp0_lines.md`). -/

namespace Sys2Proof.Machine

/-- A line that is not rejected: end points after the offset and the two colours (R303). -/
structure LineGeom where
  x0 : Int
  y0 : Int
  x1 : Int
  y1 : Int
  c0 : Rgb
  c1 : Rgb
  deriving DecidableEq, Repr

/-- The span is too long to be drawn (R293). -/
def lineRejected (a b : Vertex) : Bool :=
  decide ((b.x.toInt - a.x.toInt).natAbs > 0x3FF ∨ (b.y.toInt - a.y.toInt).natAbs > 0x1FF)

/-- The line of two vertices, offset added (R298). -/
def lineGeom (s : State) (a b : Vertex) (c0 c1 : Rgb) : LineGeom :=
  ⟨vertexX s a, vertexY s a, vertexX s b, vertexY s b, c0, c1⟩

/-- The major axis is X (R294); a tie takes Y. -/
def lineMajorX (g : LineGeom) : Bool := decide ((g.x1 - g.x0).natAbs > (g.y1 - g.y0).natAbs)

/-- `L`, the major extent (R294). -/
def lineL (g : LineGeom) : Nat := if lineMajorX g then (g.x1 - g.x0).natAbs else (g.y1 - g.y0).natAbs

/-- `S`, the minor extent (R294). -/
def lineS (g : LineGeom) : Nat := if lineMajorX g then (g.y1 - g.y0).natAbs else (g.x1 - g.x0).natAbs

/-- Where the walk stands and its error accumulator (R294). -/
structure LineCursor where
  x : Int
  y : Int
  num : Nat
  deriving DecidableEq, Repr

/-- The first pixel (R294). -/
def lineStart (g : LineGeom) : LineCursor := ⟨g.x0, g.y0, lineL g >>> 1⟩

/-- From one pixel to the next: a diagonal step when the accumulator reaches `L`, else one along the major axis
(R294, R303). -/
def lineStep (g : LineGeom) (c : LineCursor) : LineCursor :=
  let sx := (g.x1 - g.x0).sign
  let sy := (g.y1 - g.y0).sign
  let num := c.num + lineS g
  if num ≥ lineL g then ⟨c.x + sx, c.y + sy, num - lineL g⟩
  else if lineMajorX g then ⟨c.x + sx, c.y, num⟩
  else ⟨c.x, c.y + sy, num⟩

/-- One channel of pixel `i` of `L + 1` (R296). -/
def lineChannel (l i : Nat) (a b : BitVec 8) : BitVec 8 :=
  if l = 0 then a else BitVec.ofNat 8 ((a.toNat * (l - i) + b.toNat * i) / l)

/-- The colour of pixel `i` (R296). -/
def lineColour (g : LineGeom) (i : Nat) : Rgb :=
  { r := lineChannel (lineL g) i g.c0.r g.c1.r
    g := lineChannel (lineL g) i g.c0.g g.c1.g
    b := lineChannel (lineL g) i g.c0.b g.c1.b }

/-- What the walk does at pixel `i` (R300, R301). -/
def linePixel (g : LineGeom) (semi : Bool) (i : Nat) (c : LineCursor) (s : State) : State :=
  if inArea s.env c.x c.y then drawPixel c.x c.y (lineColour g i) none semi s else s

/-- `k` pixels from pixel `i` on (R303). -/
def lineWalk (g : LineGeom) (semi : Bool) : (k i : Nat) → LineCursor → State → State
  | 0, _, _, s => s
  | k + 1, i, c, s => if live s then lineWalk g semi k (i + 1) (lineStep g c) (linePixel g semi i c s) else s

/-- `Line(W)` (R303). -/
def line (a b : Vertex) (c0 c1 : Rgb) (semi : Bool) (s : State) : State :=
  if lineRejected a b then s
  else
    let g := lineGeom s a b c0 c1
    lineWalk g semi (lineL g + 1) 0 (lineStart g) s

/-- A flat line has `c1 = c0` (R291). -/
def drawLineF (o : LineF) (semi : Bool) (s : State) : State := line o.a o.b o.c o.c semi s

/-- A shaded line (R291). -/
def drawLineG (o : LineG) (semi : Bool) (s : State) : State := line o.a o.b o.c0 o.c1 semi s

/-- What every polyline opcode does: the block has no polylines (R322). -/
def polylineUnsupported (op : BitVec 8) (s : State) : State := raise (.unsupportedFeature .polyline op) s

/-! ### One meaning per opcode. Opcode bits 2 and 0 are ignored (R290). -/

/-- `LINE_F` (R306). -/
def execLineF (o : LineF) (s : State) : Result := .next (drawLineF o false s)

/-- `LINE_F@41` (R307). -/
def execLineFAt41 (o : LineF) (s : State) : Result := .next (drawLineF o false s)

/-- `LINE_F_S` (R308). -/
def execLineFS (o : LineF) (s : State) : Result := .next (drawLineF o true s)

/-- `LINE_F_S@43` (R309). -/
def execLineFSAt43 (o : LineF) (s : State) : Result := .next (drawLineF o true s)

/-- `LINE_F@44` (R310). -/
def execLineFAt44 (o : LineF) (s : State) : Result := .next (drawLineF o false s)

/-- `LINE_F@45` (R311). -/
def execLineFAt45 (o : LineF) (s : State) : Result := .next (drawLineF o false s)

/-- `LINE_F_S@46` (R312). -/
def execLineFSAt46 (o : LineF) (s : State) : Result := .next (drawLineF o true s)

/-- `LINE_F_S@47` (R313). -/
def execLineFSAt47 (o : LineF) (s : State) : Result := .next (drawLineF o true s)

/-- `POLYLINE@48` (R322). -/
def execPolyline48 (s : State) : Result := .next (polylineUnsupported 0x48#8 s)

/-- `POLYLINE@49` (R322). -/
def execPolyline49 (s : State) : Result := .next (polylineUnsupported 0x49#8 s)

/-- `POLYLINE@4A` (R322). -/
def execPolyline4a (s : State) : Result := .next (polylineUnsupported 0x4A#8 s)

/-- `POLYLINE@4B` (R322). -/
def execPolyline4b (s : State) : Result := .next (polylineUnsupported 0x4B#8 s)

/-- `POLYLINE@4C` (R322). -/
def execPolyline4c (s : State) : Result := .next (polylineUnsupported 0x4C#8 s)

/-- `POLYLINE@4D` (R322). -/
def execPolyline4d (s : State) : Result := .next (polylineUnsupported 0x4D#8 s)

/-- `POLYLINE@4E` (R322). -/
def execPolyline4e (s : State) : Result := .next (polylineUnsupported 0x4E#8 s)

/-- `POLYLINE@4F` (R322). -/
def execPolyline4f (s : State) : Result := .next (polylineUnsupported 0x4F#8 s)

/-- `LINE_G` (R314). -/
def execLineG (o : LineG) (s : State) : Result := .next (drawLineG o false s)

/-- `LINE_G@51` (R315). -/
def execLineGAt51 (o : LineG) (s : State) : Result := .next (drawLineG o false s)

/-- `LINE_G_S` (R316). -/
def execLineGS (o : LineG) (s : State) : Result := .next (drawLineG o true s)

/-- `LINE_G_S@53` (R317). -/
def execLineGSAt53 (o : LineG) (s : State) : Result := .next (drawLineG o true s)

/-- `LINE_G@54` (R318). -/
def execLineGAt54 (o : LineG) (s : State) : Result := .next (drawLineG o false s)

/-- `LINE_G@55` (R319). -/
def execLineGAt55 (o : LineG) (s : State) : Result := .next (drawLineG o false s)

/-- `LINE_G_S@56` (R320). -/
def execLineGSAt56 (o : LineG) (s : State) : Result := .next (drawLineG o true s)

/-- `LINE_G_S@57` (R321). -/
def execLineGSAt57 (o : LineG) (s : State) : Result := .next (drawLineG o true s)

/-- `POLYLINE@58` (R322). -/
def execPolyline58 (s : State) : Result := .next (polylineUnsupported 0x58#8 s)

/-- `POLYLINE@59` (R322). -/
def execPolyline59 (s : State) : Result := .next (polylineUnsupported 0x59#8 s)

/-- `POLYLINE@5A` (R322). -/
def execPolyline5a (s : State) : Result := .next (polylineUnsupported 0x5A#8 s)

/-- `POLYLINE@5B` (R322). -/
def execPolyline5b (s : State) : Result := .next (polylineUnsupported 0x5B#8 s)

/-- `POLYLINE@5C` (R322). -/
def execPolyline5c (s : State) : Result := .next (polylineUnsupported 0x5C#8 s)

/-- `POLYLINE@5D` (R322). -/
def execPolyline5d (s : State) : Result := .next (polylineUnsupported 0x5D#8 s)

/-- `POLYLINE@5E` (R322). -/
def execPolyline5e (s : State) : Result := .next (polylineUnsupported 0x5E#8 s)

/-- `POLYLINE@5F` (R322). -/
def execPolyline5f (s : State) : Result := .next (polylineUnsupported 0x5F#8 s)

end Sys2Proof.Machine
end

