-- ==== Sys2Proof/Machine/Misc.lean ====
section
/-! DEFINITION. The GP0 commands without operands (`spec/40_gp0_decoder_fsm.md` R210 to R212). -/

namespace Sys2Proof.Machine

/-- `NOP`: the job does nothing (R210). -/
def execNop (s : State) : Result := .next s

/-- `CLRCACHE`: the job does nothing, the block has no texture cache (R211). -/
def execClrCache (s : State) : Result := .next s

/-- `IRQ` (R212). -/
def execIrq (s : State) : Result := .next { s with st := { s.st with irq := true } }

end Sys2Proof.Machine
end

