-- ==== Sys2Proof/Machine/Polygon.lean ====
section
/-! DEFINITION. The triangle rasterizer and the 32 polygon commands (`spec/41_gp0_polygons.md`). -/

namespace Sys2Proof.Machine

/-! ### Area and winding -/

/-- `orient(a, b, (x, y))`, the cross product of the edge vectors (R237). -/
def orient (a b : PVertex) (x y : Int) : Int := (b.x - a.x) * (y - a.y) - (b.y - a.y) * (x - a.x)

/-- A triangle wound so that its area, twice the geometric one, is positive (R238). -/
structure Tri where
  p0 : PVertex
  p1 : PVertex
  p2 : PVertex
  area : Int
  deriving DecidableEq, Repr

/-- R238: no triangle when the area is zero; vertices 1 and 2 swapped when it is negative. -/
def windTri (p0 p1 p2 : PVertex) : Option Tri :=
  let area := orient p0 p1 p2.x p2.y
  if area = 0 then none
  else if area < 0 then some ⟨p0, p2, p1, -area⟩
  else some ⟨p0, p1, p2, area⟩

/-! ### Coverage and interpolation -/

/-- `isTopLeft(a, b)` as the source prints it (R241). -/
def isTopLeft (a b : PVertex) : Bool := decide ((a.y = b.y ∧ b.x > a.x) ∨ b.y < a.y)

/-- R241. -/
def edgeBias (a b : PVertex) : Int := if isTopLeft a b then 0 else -1

/-- The unbiased edge functions `w0`, `w1`, `w2` at a pixel (R242). -/
def edge0 (t : Tri) (x y : Int) : Int := orient t.p1 t.p2 x y
/-- `w1` (R242). -/
def edge1 (t : Tri) (x y : Int) : Int := orient t.p2 t.p0 x y
/-- `w2` (R242). -/
def edge2 (t : Tri) (x y : Int) : Int := orient t.p0 t.p1 x y

/-- The pixel is covered: all three biased edge functions are non-negative (R242). -/
def covers (t : Tri) (x y : Int) : Bool :=
  decide (0 ≤ edge0 t x y + edgeBias t.p1 t.p2 ∧ 0 ≤ edge1 t x y + edgeBias t.p2 t.p0 ∧
    0 ≤ edge2 t x y + edgeBias t.p0 t.p1)

/-- `Interp(a0, a1, a2)`, rounding toward zero (R243, R12). -/
def interp (t : Tri) (a0 a1 a2 x y : Int) : Int :=
  (a0 * edge0 t x y + a1 * edge1 t x y + a2 * edge2 t x y).tdiv t.area

/-- One interpolated colour channel; on a covered pixel the value is in 0..255 (R243, R416). -/
def interpChannel (t : Tri) (a0 a1 a2 : BitVec 8) (x y : Int) : BitVec 8 :=
  BitVec.ofInt 8 (interp t a0.toNat a1.toNat a2.toNat x y)

/-- The interpolated colour of a shaded polygon (R243). -/
def interpColour (t : Tri) (x y : Int) : Rgb :=
  { r := interpChannel t t.p0.c.r t.p1.c.r t.p2.c.r x y
    g := interpChannel t t.p0.c.g t.p1.c.g t.p2.c.g x y
    b := interpChannel t t.p0.c.b t.p1.c.b t.p2.c.b x y }

/-! ### The triangle -/

/-- The bounding box of the three vertices (R239). -/
def triBox (t : Tri) : Span :=
  { xs := min t.p0.x (min t.p1.x t.p2.x), xe := max t.p0.x (max t.p1.x t.p2.x),
    ys := min t.p0.y (min t.p1.y t.p2.y), ye := max t.p0.y (max t.p1.y t.p2.y) }

/-- The bounding box exceeds 1024 by 512 (R239). -/
def tooLarge (b : Span) : Bool := decide (b.xe - b.xs > 1024 ∨ b.ye - b.ys > 512)

/-- The base colour of a pixel: the flat colour or the interpolated one (R232, R244). -/
def triColour (t : Tri) (shaded : Bool) (x y : Int) : Rgb := if shaded then interpColour t x y else t.p0.c

/-- The texture reference of a pixel (R243, R244). -/
def triTexRef (t : Tri) (tex : Option TexAttr) (x y : Int) : Option TexRef :=
  tex.map fun a => ⟨interp t t.p0.u t.p1.u t.p2.u x y, interp t t.p0.v t.p1.v t.p2.v x y, a⟩

/-- What `Triangle` does at one pixel of the walk (R242, R244). -/
def triPixel (t : Tri) (shaded : Bool) (tex : Option TexAttr) (semi : Bool) (x y : Int) (s : State) : State :=
  if covers t x y then drawPixel x y (triColour t shaded x y) (triTexRef t tex x y) semi s else s

/-- `Triangle`, from the clamp of the vertices on (R247). -/
def triangle (p0 p1 p2 : PVertex) (shaded : Bool) (tex : Option TexAttr) (semi : Bool) (s : State) : State :=
  match windTri (clampVertex s.env p0) (clampVertex s.env p1) (clampVertex s.env p2) with
  | none => s
  | some t =>
    if tooLarge (triBox t) then s
    else forSpan (clipSpan s.env (triBox t)) (triPixel t shaded tex semi) s

/-- A 4-point polygon: triangle 0-1-2, then, unless it raised a fault, 1-2-3 from the unclamped vertices (R246). -/
def quad (p0 p1 p2 p3 : PVertex) (shaded : Bool) (tex : Option TexAttr) (semi : Bool) (s : State) : State :=
  let t := triangle p0 p1 p2 shaded tex semi s
  if live t then triangle p1 p2 p3 shaded tex semi t else t

/-! ### `Polygon(W)` by operand shape (R231): `semi` and `raw` are the opcode's bits 1 and 0 -/

/-- Flat, 3 vertices, untextured (R231). -/
def drawPolyF3 (o : PolyF3) (semi : Bool) (s : State) : State :=
  triangle (plainVertex s o.v0 o.c) (plainVertex s o.v1 o.c)
    (plainVertex s o.v2 o.c) false none semi s

/-- Flat, 3 vertices, textured (R231). -/
def drawPolyFT3 (o : PolyFT3) (semi raw : Bool) (s : State) : State :=
  triangle (texVertex s o.v0 o.t0 o.c) (texVertex s o.v1 o.t1 o.c)
    (texVertex s o.v2 o.t2 o.c) false (some (polyTex o.clut o.page raw)) semi s

/-- Flat, 4 vertices, untextured (R231). -/
def drawPolyF4 (o : PolyF4) (semi : Bool) (s : State) : State :=
  quad (plainVertex s o.v0 o.c) (plainVertex s o.v1 o.c)
    (plainVertex s o.v2 o.c) (plainVertex s o.v3 o.c) false none semi s

/-- Flat, 4 vertices, textured (R231). -/
def drawPolyFT4 (o : PolyFT4) (semi raw : Bool) (s : State) : State :=
  quad (texVertex s o.v0 o.t0 o.c) (texVertex s o.v1 o.t1 o.c)
    (texVertex s o.v2 o.t2 o.c) (texVertex s o.v3 o.t3 o.c) false (some (polyTex o.clut o.page raw)) semi s

/-- Shaded, 3 vertices, untextured (R231). -/
def drawPolyG3 (o : PolyG3) (semi : Bool) (s : State) : State :=
  triangle (plainVertex s o.v0 o.c0) (plainVertex s o.v1 o.c1)
    (plainVertex s o.v2 o.c2) true none semi s

/-- Shaded, 3 vertices, textured (R231). -/
def drawPolyGT3 (o : PolyGT3) (semi raw : Bool) (s : State) : State :=
  triangle (texVertex s o.v0 o.t0 o.c0) (texVertex s o.v1 o.t1 o.c1)
    (texVertex s o.v2 o.t2 o.c2) true (some (polyTex o.clut o.page raw)) semi s

/-- Shaded, 4 vertices, untextured (R231). -/
def drawPolyG4 (o : PolyG4) (semi : Bool) (s : State) : State :=
  quad (plainVertex s o.v0 o.c0) (plainVertex s o.v1 o.c1)
    (plainVertex s o.v2 o.c2) (plainVertex s o.v3 o.c3) true none semi s

/-- Shaded, 4 vertices, textured (R231). -/
def drawPolyGT4 (o : PolyGT4) (semi raw : Bool) (s : State) : State :=
  quad (texVertex s o.v0 o.t0 o.c0) (texVertex s o.v1 o.t1 o.c1)
    (texVertex s o.v2 o.t2 o.c2) (texVertex s o.v3 o.t3 o.c3) true (some (polyTex o.clut o.page raw)) semi s

/-! ### One meaning per opcode. An untextured polygon ignores the `raw` bit (R232). -/

/-- `POLY_F3` (R250). -/
def execPolyF3 (o : PolyF3) (s : State) : Result := .next (drawPolyF3 o false s)

/-- `POLY_F3@21` (R251). -/
def execPolyF3At21 (o : PolyF3) (s : State) : Result := .next (drawPolyF3 o false s)

/-- `POLY_F3_S` (R252). -/
def execPolyF3S (o : PolyF3) (s : State) : Result := .next (drawPolyF3 o true s)

/-- `POLY_F3_S@23` (R253). -/
def execPolyF3SAt23 (o : PolyF3) (s : State) : Result := .next (drawPolyF3 o true s)

/-- `POLY_FT3` (R254). -/
def execPolyFT3 (o : PolyFT3) (s : State) : Result := .next (drawPolyFT3 o false false s)

/-- `POLY_FT3_R` (R255). -/
def execPolyFT3R (o : PolyFT3) (s : State) : Result := .next (drawPolyFT3 o false true s)

/-- `POLY_FT3_S` (R256). -/
def execPolyFT3S (o : PolyFT3) (s : State) : Result := .next (drawPolyFT3 o true false s)

/-- `POLY_FT3_SR` (R257). -/
def execPolyFT3SR (o : PolyFT3) (s : State) : Result := .next (drawPolyFT3 o true true s)

/-- `POLY_F4` (R258). -/
def execPolyF4 (o : PolyF4) (s : State) : Result := .next (drawPolyF4 o false s)

/-- `POLY_F4@29` (R259). -/
def execPolyF4At29 (o : PolyF4) (s : State) : Result := .next (drawPolyF4 o false s)

/-- `POLY_F4_S` (R260). -/
def execPolyF4S (o : PolyF4) (s : State) : Result := .next (drawPolyF4 o true s)

/-- `POLY_F4_S@2B` (R261). -/
def execPolyF4SAt2b (o : PolyF4) (s : State) : Result := .next (drawPolyF4 o true s)

/-- `POLY_FT4` (R262). -/
def execPolyFT4 (o : PolyFT4) (s : State) : Result := .next (drawPolyFT4 o false false s)

/-- `POLY_FT4_R` (R263). -/
def execPolyFT4R (o : PolyFT4) (s : State) : Result := .next (drawPolyFT4 o false true s)

/-- `POLY_FT4_S` (R264). -/
def execPolyFT4S (o : PolyFT4) (s : State) : Result := .next (drawPolyFT4 o true false s)

/-- `POLY_FT4_SR` (R265). -/
def execPolyFT4SR (o : PolyFT4) (s : State) : Result := .next (drawPolyFT4 o true true s)

/-- `POLY_G3` (R266). -/
def execPolyG3 (o : PolyG3) (s : State) : Result := .next (drawPolyG3 o false s)

/-- `POLY_G3@31` (R267). -/
def execPolyG3At31 (o : PolyG3) (s : State) : Result := .next (drawPolyG3 o false s)

/-- `POLY_G3_S` (R268). -/
def execPolyG3S (o : PolyG3) (s : State) : Result := .next (drawPolyG3 o true s)

/-- `POLY_G3_S@33` (R269). -/
def execPolyG3SAt33 (o : PolyG3) (s : State) : Result := .next (drawPolyG3 o true s)

/-- `POLY_GT3` (R270). -/
def execPolyGT3 (o : PolyGT3) (s : State) : Result := .next (drawPolyGT3 o false false s)

/-- `POLY_GT3_R` (R271). -/
def execPolyGT3R (o : PolyGT3) (s : State) : Result := .next (drawPolyGT3 o false true s)

/-- `POLY_GT3_S` (R272). -/
def execPolyGT3S (o : PolyGT3) (s : State) : Result := .next (drawPolyGT3 o true false s)

/-- `POLY_GT3_SR` (R273). -/
def execPolyGT3SR (o : PolyGT3) (s : State) : Result := .next (drawPolyGT3 o true true s)

/-- `POLY_G4` (R274). -/
def execPolyG4 (o : PolyG4) (s : State) : Result := .next (drawPolyG4 o false s)

/-- `POLY_G4@39` (R275). -/
def execPolyG4At39 (o : PolyG4) (s : State) : Result := .next (drawPolyG4 o false s)

/-- `POLY_G4_S` (R276). -/
def execPolyG4S (o : PolyG4) (s : State) : Result := .next (drawPolyG4 o true s)

/-- `POLY_G4_S@3B` (R277). -/
def execPolyG4SAt3b (o : PolyG4) (s : State) : Result := .next (drawPolyG4 o true s)

/-- `POLY_GT4` (R278). -/
def execPolyGT4 (o : PolyGT4) (s : State) : Result := .next (drawPolyGT4 o false false s)

/-- `POLY_GT4_R` (R279). -/
def execPolyGT4R (o : PolyGT4) (s : State) : Result := .next (drawPolyGT4 o false true s)

/-- `POLY_GT4_S` (R280). -/
def execPolyGT4S (o : PolyGT4) (s : State) : Result := .next (drawPolyGT4 o true false s)

/-- `POLY_GT4_SR` (R281). -/
def execPolyGT4SR (o : PolyGT4) (s : State) : Result := .next (drawPolyGT4 o true true s)

end Sys2Proof.Machine
end

