-- ==== Sys2Proof/Machine/Rect.lean ====
section
/-! DEFINITION. The 32 rectangle commands (`spec/43_gp0_rectangles.md`). -/

namespace Sys2Proof.Machine

/-- The texture of a rectangle: the starting coordinate and the attributes (R334, R336). -/
structure RectTex where
  t : TexCoord
  attr : TexAttr
  deriving DecidableEq, Repr

/-- One texture coordinate of a rectangle, counted from the unclipped corner, up or, flipped, down (R334, R342). -/
def rectCoord (flip : Bool) (t : BitVec 8) (d : Int) : Int := if flip then t.toNat - d else t.toNat + d

/-- The texture reference of pixel `(x, y)` (R334, R342). -/
def rectTexRef (e : DrawEnv) (x0 y0 : Int) (tex : Option RectTex) (x y : Int) : Option TexRef :=
  tex.map fun r => ⟨rectCoord e.flipX r.t.u (x - x0), rectCoord e.flipY r.t.v (y - y0), r.attr⟩

/-- `Rect(W)` for a corner, a size, a colour and a texture (R339). -/
def rect (x0 y0 : Int) (w h : Nat) (c : Rgb) (tex : Option RectTex) (semi : Bool) (s : State) : State :=
  forSpan (clipSpan s.env ⟨x0, x0 + w, y0, y0 + h⟩)
    (fun x y t => drawPixel x y c (rectTexRef s.env x0 y0 tex x y) semi t) s

/-- Variable size, untextured (R331, R332). -/
def drawRectV (o : RectV) (semi : Bool) (s : State) : State :=
  rect (vertexX s o.pos) (vertexY s o.pos) o.size.w.toNat o.size.h.toNat o.c none semi s

/-- Variable size, textured (R331, R332). -/
def drawRectTV (o : RectTV) (semi raw : Bool) (s : State) : State :=
  rect (vertexX s o.pos) (vertexY s o.pos) o.size.w.toNat o.size.h.toNat o.c
    (some ⟨o.t, rectTex s o.clut raw⟩) semi s

/-- Fixed size, untextured; `size` is the opcode's size field (R331, R332). -/
def drawRectS (size : Nat) (o : RectS) (semi : Bool) (s : State) : State :=
  rect (vertexX s o.pos) (vertexY s o.pos) (fixedSide size) (fixedSide size) o.c none semi s

/-- Fixed size, textured; `size` is the opcode's size field (R331, R332). -/
def drawRectTS (size : Nat) (o : RectTS) (semi raw : Bool) (s : State) : State :=
  rect (vertexX s o.pos) (vertexY s o.pos) (fixedSide size) (fixedSide size) o.c
    (some ⟨o.t, rectTex s o.clut raw⟩) semi s

/-! ### One meaning per opcode. An untextured rectangle ignores the `raw` bit (R330). -/

/-- `RECT_V` (R346). -/
def execRectV (o : RectV) (s : State) : Result := .next (drawRectV o false s)

/-- `RECT_V@61` (R347). -/
def execRectVAt61 (o : RectV) (s : State) : Result := .next (drawRectV o false s)

/-- `RECT_V_S` (R348). -/
def execRectVS (o : RectV) (s : State) : Result := .next (drawRectV o true s)

/-- `RECT_V_S@63` (R349). -/
def execRectVSAt63 (o : RectV) (s : State) : Result := .next (drawRectV o true s)

/-- `RECT_TV` (R350). -/
def execRectTV (o : RectTV) (s : State) : Result := .next (drawRectTV o false false s)

/-- `RECT_TV_R` (R351). -/
def execRectTVR (o : RectTV) (s : State) : Result := .next (drawRectTV o false true s)

/-- `RECT_TV_S` (R352). -/
def execRectTVS (o : RectTV) (s : State) : Result := .next (drawRectTV o true false s)

/-- `RECT_TV_SR` (R353). -/
def execRectTVSR (o : RectTV) (s : State) : Result := .next (drawRectTV o true true s)

/-- `RECT_1` (R354). -/
def execRect1 (o : RectS) (s : State) : Result := .next (drawRectS 1 o false s)

/-- `RECT_1@69` (R355). -/
def execRect1At69 (o : RectS) (s : State) : Result := .next (drawRectS 1 o false s)

/-- `RECT_1_S` (R356). -/
def execRect1S (o : RectS) (s : State) : Result := .next (drawRectS 1 o true s)

/-- `RECT_1_S@6B` (R357). -/
def execRect1SAt6b (o : RectS) (s : State) : Result := .next (drawRectS 1 o true s)

/-- `RECT_T1` (R358). -/
def execRectT1 (o : RectTS) (s : State) : Result := .next (drawRectTS 1 o false false s)

/-- `RECT_T1_R` (R359). -/
def execRectT1R (o : RectTS) (s : State) : Result := .next (drawRectTS 1 o false true s)

/-- `RECT_T1_S` (R360). -/
def execRectT1S (o : RectTS) (s : State) : Result := .next (drawRectTS 1 o true false s)

/-- `RECT_T1_SR` (R361). -/
def execRectT1SR (o : RectTS) (s : State) : Result := .next (drawRectTS 1 o true true s)

/-- `RECT_8` (R362). -/
def execRect8 (o : RectS) (s : State) : Result := .next (drawRectS 2 o false s)

/-- `RECT_8@71` (R363). -/
def execRect8At71 (o : RectS) (s : State) : Result := .next (drawRectS 2 o false s)

/-- `RECT_8_S` (R364). -/
def execRect8S (o : RectS) (s : State) : Result := .next (drawRectS 2 o true s)

/-- `RECT_8_S@73` (R365). -/
def execRect8SAt73 (o : RectS) (s : State) : Result := .next (drawRectS 2 o true s)

/-- `RECT_T8` (R366). -/
def execRectT8 (o : RectTS) (s : State) : Result := .next (drawRectTS 2 o false false s)

/-- `RECT_T8_R` (R367). -/
def execRectT8R (o : RectTS) (s : State) : Result := .next (drawRectTS 2 o false true s)

/-- `RECT_T8_S` (R368). -/
def execRectT8S (o : RectTS) (s : State) : Result := .next (drawRectTS 2 o true false s)

/-- `RECT_T8_SR` (R369). -/
def execRectT8SR (o : RectTS) (s : State) : Result := .next (drawRectTS 2 o true true s)

/-- `RECT_16` (R370). -/
def execRect16 (o : RectS) (s : State) : Result := .next (drawRectS 3 o false s)

/-- `RECT_16@79` (R371). -/
def execRect16At79 (o : RectS) (s : State) : Result := .next (drawRectS 3 o false s)

/-- `RECT_16_S` (R372). -/
def execRect16S (o : RectS) (s : State) : Result := .next (drawRectS 3 o true s)

/-- `RECT_16_S@7B` (R373). -/
def execRect16SAt7b (o : RectS) (s : State) : Result := .next (drawRectS 3 o true s)

/-- `RECT_T16` (R374). -/
def execRectT16 (o : RectTS) (s : State) : Result := .next (drawRectTS 3 o false false s)

/-- `RECT_T16_R` (R375). -/
def execRectT16R (o : RectTS) (s : State) : Result := .next (drawRectTS 3 o false true s)

/-- `RECT_T16_S` (R376). -/
def execRectT16S (o : RectTS) (s : State) : Result := .next (drawRectTS 3 o true false s)

/-- `RECT_T16_SR` (R377). -/
def execRectT16SR (o : RectTS) (s : State) : Result := .next (drawRectTS 3 o true true s)

end Sys2Proof.Machine
end

