-- ==== Sys2Proof/Machine/Transfer.lean ====
section
/-! DEFINITION. The fill, the three copies, the data phase and the readback (`spec/46_gp0_vram_transfers.md`). The
four commands use absolute coordinates as they are: no drawing area, no offset, no wrap (R430). -/

namespace Sys2Proof.Machine

/-- `Fill(W)`: mask bit 0, whatever the mask settings (R432, R433). -/
def fillRect (o : Fill) (s : State) : State :=
  forGrid o.size.w.toNat o.size.h.toNat
    (fun i j => setPix24 (o.pos.x.toNat + i : Nat) (o.pos.y.toNat + j : Nat) ⟨false, o.c.r, o.c.g, o.c.b⟩) s

/-- The fault of a copy of zero width or height (R431). -/
def zeroSize (op : BitVec 8) (s : State) : State := raise (.unsupportedFeature .zeroSizeTransfer op) s

/-- One pixel of a VRAM to VRAM copy: the source is read, the destination tested, then written (R435, R436). -/
def copyPixel (sx sy dx dy : Int) (s : State) : State :=
  match pixelAt s sx sy with
  | .error f => raise f s
  | .ok src =>
    match pixelAt s dx dy with
    | .error f => raise f s
    | .ok dst =>
      if s.st.checkMask && dst.c24.m then s
      else setPix24 dx dy { src.c24 with m := src.c24.m || s.st.setMask } s

/-- `CopyVV(W)`, rows top to bottom, left to right, nothing buffered (R435, R437). -/
def copyVramVram (o : CopyVV) (s : State) : State :=
  forGrid o.size.w.toNat o.size.h.toNat
    (fun i j => copyPixel (o.src.x.toNat + i : Nat) (o.src.y.toNat + j : Nat)
      (o.dst.x.toNat + i : Nat) (o.dst.y.toNat + j : Nat)) s

/-- A cursor at the first pixel of a rectangle (R440, R446). -/
def startXfer (o : CopyXfer) : Xfer := ⟨o.pos.x, o.pos.y, o.size.w, o.size.h, 0⟩

/-- `w · h`. -/
def xferTotal (t : Xfer) : Nat := t.w.toNat * t.h.toNat

/-- The column of the cursor's next pixel (R442, R448, R454). -/
def xferX (t : Xfer) : Nat := t.x.toNat + t.n % t.w.toNat

/-- The row of the cursor's next pixel (R442, R448, R454). -/
def xferY (t : Xfer) : Nat := t.y.toNat + t.n / t.w.toNat

/-- `CopyCVStart(W)` (R440). -/
def copyCpuVram (o : CopyXfer) (s : State) : State := { s with xferIn := some (startXfer o) }

/-- `CopyVCStart(W)`: an active readback is abandoned (R446); the new one has not been drained by anyone yet (R109,
log 9). -/
def copyVramCpu (o : CopyXfer) (s : State) : State :=
  { s with xferOut := some (startXfer o), st := { s.st with readySend := true }, outByCpu := false }

/-- The 15-bit value with the configured mask bit (R441, R442). -/
def withSetMask (st : Status) (p : P15) : P15 := p ||| (if st.setMask then 0x8000#16 else 0#16)

/-- `Put(p)`: the cursor advances, then the destination is tested and written (R442, R441). Without a copy in
progress nothing happens; the decoder makes no such job (R442, log 12). -/
def putPixel (p : P15) (s : State) : State :=
  match s.xferIn with
  | none => s
  | some t =>
    if t.n ≥ xferTotal t then s
    else
      let s1 := { s with xferIn := some { t with n := t.n + 1 } }
      match pixelAt s1 (xferX t) (xferY t) with
      | .error f => raise f s1
      | .ok d =>
        if s.st.checkMask && d.p15.getLsbD 15 then s1 else setPix15 (xferX t) (xferY t) (withSetMask s.st p) s1

/-- The copy is over when every pixel has been consumed (R442). -/
def endIn (s : State) : State :=
  match s.xferIn with
  | none => s
  | some t => if t.n = xferTotal t then { s with xferIn := none } else s

/-- `DataJob(d)`: two pixels, the earlier in bits 15:0 (R442, R164). -/
def dataJob (d : Word) (s : State) : State :=
  let s1 := putPixel (bits d 0 16) s
  if live s1 then
    let s2 := putPixel (bits d 16 16) s1
    if live s2 then endIn s2 else s2
  else s1

/-- `Next()` of the readback: the value and the state with the cursor advanced (R448). -/
def nextPixel (s : State) : P15 × State :=
  match s.xferOut with
  | none => (0#16, s)
  | some t =>
    if t.n ≥ xferTotal t then (0#16, s)
    else
      let s1 := { s with xferOut := some { t with n := t.n + 1 } }
      match pixelAt s1 (xferX t) (xferY t) with
      | .error f => (0#16, raise f s1)
      | .ok d => (d.p15, s1)

/-- The readback is over when every pixel has been read (R448). -/
def endOut (s : State) : State :=
  match s.xferOut with
  | none => s
  | some t =>
    if t.n = xferTotal t then { s with xferOut := none, st := { s.st with readySend := false } } else s

/-- The part of `ReadData` before the value is returned: an active readback latches its next two pixels, the earlier
in bits 15:0 (R448). -/
def latchPixels (s : State) : State :=
  match s.xferOut with
  | none => s
  | some _ =>
    let (lo, s1) := nextPixel s
    if live s1 then
      let (hi, s2) := nextPixel s1
      if live s2 then endOut { s2 with gpuread := place 16 hi ||| place 0 lo } else s2
    else s1

/-! ### One meaning per opcode. The size is checked again here, as the decoder checks it (R195, log 16). -/

/-- `FILL` (R432). -/
def execFill (o : Fill) (s : State) : Result := .next (fillRect o s)

/-- `COPY_VV` (R435). -/
def execCopyVV (o : CopyVV) (s : State) : Result :=
  .next (if o.size.nonzero then copyVramVram o s else zeroSize 0x80#8 s)

/-- `COPY_CV`, the job of its header (R440). -/
def execCopyCV (o : CopyXfer) (s : State) : Result :=
  .next (if o.size.nonzero then copyCpuVram o s else zeroSize 0xA0#8 s)

/-- `COPY_VC`, the job of its header (R446). -/
def execCopyVC (o : CopyXfer) (s : State) : Result :=
  .next (if o.size.nonzero then copyVramCpu o s else zeroSize 0xC0#8 s)

end Sys2Proof.Machine
end

