-- ==== Sys2Proof/Machine/Dispatch.lean ====
section
/-! DEFINITION. One arm per constructor of `Instr`, each one call of its meaning. `exec` is the job of a GP0 command
(R202 of `spec/40_gp0_decoder_fsm.md`) and the effect of a GP1 command (R480 of `spec/48_gp1_control.md`); the
decoder state is advanced around it by `Machine/Executor.lean` (log 1). -/

namespace Sys2Proof.Machine

def exec (i : Instr) (s : State) : Host.Outcome State Fault Refusal :=
  match i with
  | .nop => Sys2Proof.Machine.execNop s
  | .clrCache => Sys2Proof.Machine.execClrCache s
  | .fill o => Sys2Proof.Machine.execFill o s
  | .irq => Sys2Proof.Machine.execIrq s
  | .polyF3 o => Sys2Proof.Machine.execPolyF3 o s
  | .polyF3At21 o => Sys2Proof.Machine.execPolyF3At21 o s
  | .polyF3S o => Sys2Proof.Machine.execPolyF3S o s
  | .polyF3SAt23 o => Sys2Proof.Machine.execPolyF3SAt23 o s
  | .polyFT3 o => Sys2Proof.Machine.execPolyFT3 o s
  | .polyFT3R o => Sys2Proof.Machine.execPolyFT3R o s
  | .polyFT3S o => Sys2Proof.Machine.execPolyFT3S o s
  | .polyFT3SR o => Sys2Proof.Machine.execPolyFT3SR o s
  | .polyF4 o => Sys2Proof.Machine.execPolyF4 o s
  | .polyF4At29 o => Sys2Proof.Machine.execPolyF4At29 o s
  | .polyF4S o => Sys2Proof.Machine.execPolyF4S o s
  | .polyF4SAt2b o => Sys2Proof.Machine.execPolyF4SAt2b o s
  | .polyFT4 o => Sys2Proof.Machine.execPolyFT4 o s
  | .polyFT4R o => Sys2Proof.Machine.execPolyFT4R o s
  | .polyFT4S o => Sys2Proof.Machine.execPolyFT4S o s
  | .polyFT4SR o => Sys2Proof.Machine.execPolyFT4SR o s
  | .polyG3 o => Sys2Proof.Machine.execPolyG3 o s
  | .polyG3At31 o => Sys2Proof.Machine.execPolyG3At31 o s
  | .polyG3S o => Sys2Proof.Machine.execPolyG3S o s
  | .polyG3SAt33 o => Sys2Proof.Machine.execPolyG3SAt33 o s
  | .polyGT3 o => Sys2Proof.Machine.execPolyGT3 o s
  | .polyGT3R o => Sys2Proof.Machine.execPolyGT3R o s
  | .polyGT3S o => Sys2Proof.Machine.execPolyGT3S o s
  | .polyGT3SR o => Sys2Proof.Machine.execPolyGT3SR o s
  | .polyG4 o => Sys2Proof.Machine.execPolyG4 o s
  | .polyG4At39 o => Sys2Proof.Machine.execPolyG4At39 o s
  | .polyG4S o => Sys2Proof.Machine.execPolyG4S o s
  | .polyG4SAt3b o => Sys2Proof.Machine.execPolyG4SAt3b o s
  | .polyGT4 o => Sys2Proof.Machine.execPolyGT4 o s
  | .polyGT4R o => Sys2Proof.Machine.execPolyGT4R o s
  | .polyGT4S o => Sys2Proof.Machine.execPolyGT4S o s
  | .polyGT4SR o => Sys2Proof.Machine.execPolyGT4SR o s
  | .lineF o => Sys2Proof.Machine.execLineF o s
  | .lineFAt41 o => Sys2Proof.Machine.execLineFAt41 o s
  | .lineFS o => Sys2Proof.Machine.execLineFS o s
  | .lineFSAt43 o => Sys2Proof.Machine.execLineFSAt43 o s
  | .lineFAt44 o => Sys2Proof.Machine.execLineFAt44 o s
  | .lineFAt45 o => Sys2Proof.Machine.execLineFAt45 o s
  | .lineFSAt46 o => Sys2Proof.Machine.execLineFSAt46 o s
  | .lineFSAt47 o => Sys2Proof.Machine.execLineFSAt47 o s
  | .polyline48 => Sys2Proof.Machine.execPolyline48 s
  | .polyline49 => Sys2Proof.Machine.execPolyline49 s
  | .polyline4a => Sys2Proof.Machine.execPolyline4a s
  | .polyline4b => Sys2Proof.Machine.execPolyline4b s
  | .polyline4c => Sys2Proof.Machine.execPolyline4c s
  | .polyline4d => Sys2Proof.Machine.execPolyline4d s
  | .polyline4e => Sys2Proof.Machine.execPolyline4e s
  | .polyline4f => Sys2Proof.Machine.execPolyline4f s
  | .lineG o => Sys2Proof.Machine.execLineG o s
  | .lineGAt51 o => Sys2Proof.Machine.execLineGAt51 o s
  | .lineGS o => Sys2Proof.Machine.execLineGS o s
  | .lineGSAt53 o => Sys2Proof.Machine.execLineGSAt53 o s
  | .lineGAt54 o => Sys2Proof.Machine.execLineGAt54 o s
  | .lineGAt55 o => Sys2Proof.Machine.execLineGAt55 o s
  | .lineGSAt56 o => Sys2Proof.Machine.execLineGSAt56 o s
  | .lineGSAt57 o => Sys2Proof.Machine.execLineGSAt57 o s
  | .polyline58 => Sys2Proof.Machine.execPolyline58 s
  | .polyline59 => Sys2Proof.Machine.execPolyline59 s
  | .polyline5a => Sys2Proof.Machine.execPolyline5a s
  | .polyline5b => Sys2Proof.Machine.execPolyline5b s
  | .polyline5c => Sys2Proof.Machine.execPolyline5c s
  | .polyline5d => Sys2Proof.Machine.execPolyline5d s
  | .polyline5e => Sys2Proof.Machine.execPolyline5e s
  | .polyline5f => Sys2Proof.Machine.execPolyline5f s
  | .rectV o => Sys2Proof.Machine.execRectV o s
  | .rectVAt61 o => Sys2Proof.Machine.execRectVAt61 o s
  | .rectVS o => Sys2Proof.Machine.execRectVS o s
  | .rectVSAt63 o => Sys2Proof.Machine.execRectVSAt63 o s
  | .rectTV o => Sys2Proof.Machine.execRectTV o s
  | .rectTVR o => Sys2Proof.Machine.execRectTVR o s
  | .rectTVS o => Sys2Proof.Machine.execRectTVS o s
  | .rectTVSR o => Sys2Proof.Machine.execRectTVSR o s
  | .rect1 o => Sys2Proof.Machine.execRect1 o s
  | .rect1At69 o => Sys2Proof.Machine.execRect1At69 o s
  | .rect1S o => Sys2Proof.Machine.execRect1S o s
  | .rect1SAt6b o => Sys2Proof.Machine.execRect1SAt6b o s
  | .rectT1 o => Sys2Proof.Machine.execRectT1 o s
  | .rectT1R o => Sys2Proof.Machine.execRectT1R o s
  | .rectT1S o => Sys2Proof.Machine.execRectT1S o s
  | .rectT1SR o => Sys2Proof.Machine.execRectT1SR o s
  | .rect8 o => Sys2Proof.Machine.execRect8 o s
  | .rect8At71 o => Sys2Proof.Machine.execRect8At71 o s
  | .rect8S o => Sys2Proof.Machine.execRect8S o s
  | .rect8SAt73 o => Sys2Proof.Machine.execRect8SAt73 o s
  | .rectT8 o => Sys2Proof.Machine.execRectT8 o s
  | .rectT8R o => Sys2Proof.Machine.execRectT8R o s
  | .rectT8S o => Sys2Proof.Machine.execRectT8S o s
  | .rectT8SR o => Sys2Proof.Machine.execRectT8SR o s
  | .rect16 o => Sys2Proof.Machine.execRect16 o s
  | .rect16At79 o => Sys2Proof.Machine.execRect16At79 o s
  | .rect16S o => Sys2Proof.Machine.execRect16S o s
  | .rect16SAt7b o => Sys2Proof.Machine.execRect16SAt7b o s
  | .rectT16 o => Sys2Proof.Machine.execRectT16 o s
  | .rectT16R o => Sys2Proof.Machine.execRectT16R o s
  | .rectT16S o => Sys2Proof.Machine.execRectT16S o s
  | .rectT16SR o => Sys2Proof.Machine.execRectT16SR o s
  | .copyVV o => Sys2Proof.Machine.execCopyVV o s
  | .copyCV o => Sys2Proof.Machine.execCopyCV o s
  | .copyVC o => Sys2Proof.Machine.execCopyVC o s
  | .drawMode o => Sys2Proof.Machine.execDrawMode o s
  | .texWin o => Sys2Proof.Machine.execTexWin o s
  | .areaTL o => Sys2Proof.Machine.execAreaTL o s
  | .areaBR o => Sys2Proof.Machine.execAreaBR o s
  | .offset o => Sys2Proof.Machine.execOffset o s
  | .maskSet o => Sys2Proof.Machine.execMaskSet o s
  | .g1Reset => Sys2Proof.Machine.execG1Reset s
  | .g1ClrQ => Sys2Proof.Machine.execG1ClrQ s
  | .g1AckIrq => Sys2Proof.Machine.execG1AckIrq s
  | .g1DispEn o => Sys2Proof.Machine.execG1DispEn o s
  | .g1DmaDir o => Sys2Proof.Machine.execG1DmaDir o s
  | .g1DispStart o => Sys2Proof.Machine.execG1DispStart o s
  | .g1HRange o => Sys2Proof.Machine.execG1HRange o s
  | .g1VRange o => Sys2Proof.Machine.execG1VRange o s
  | .g1DispMode o => Sys2Proof.Machine.execG1DispMode o s
  | .g1GetInfo o => Sys2Proof.Machine.execG1GetInfo o s

end Sys2Proof.Machine
end

