-- ==== Sys2Proof/Machine/Executor.lean ====
section
/-! DEFINITION. The GP0 decoder state machine, the command queue's executor and the drain
(`spec/40_gp0_decoder_fsm.md` R192 to R205). -/

namespace Sys2Proof.Machine

/-- The size of a copy command whose header is complete, none for every other command (R195). -/
def copySize (op : BitVec 8) (ws : List Word) : Option SizeWH :=
  match op.toNat, ws with
  | 0x80, [_, _, _, z] => some (.ofWord z)
  | 0xA0, [_, _, z] => some (.ofWord z)
  | 0xC0, [_, _, z] => some (.ofWord z)
  | _, _ => none

/-- `Complete(op, W)` (R195): the decoder returns to idle, a zero-size copy raises before anything is queued, and
0xA0 opens its data phase. -/
def complete (op : BitVec 8) (ws : List Word) (s : State) : State :=
  let s1 := { s with dec := .idle }
  match copySize op ws with
  | none => enqueue (.cmd ws) s1
  | some z =>
    if z.nonzero then
      enqueue (.cmd ws) (if op = 0xA0#8 then { s1 with dec := .dataIn (dataWords z) } else s1)
    else raise (.unsupportedFeature .zeroSizeTransfer op) s1

/-- `Accept(op, need, words)` (R192). -/
def accept (op : BitVec 8) (need : Nat) (ws : List Word) (s : State) : State :=
  if ws.length < need then { s with dec := .collect op need ws } else complete op ws s

/-- `Feed(w)` while idle (R193). A polyline has no word count; its meaning runs at the first word (R322, log 1). -/
def feedIdle (w : Word) (s : State) : Result :=
  match polylineOf (opcodeOf w) with
  | some i => exec i s
  | none =>
    match gp0Words (opcodeOf w) with
    | some need => .next (accept (opcodeOf w) need [w] s)
    | none => .next (raise (.unknownOpcode .gp0 (opcodeOf w)) s)

/-- `Feed(w)` (R192). -/
def feed (w : Word) (s : State) : Result :=
  match s.dec with
  | .dataIn rem =>
    .next { enqueue (.data w) s with dec := if rem ≤ 1 then .idle else .dataIn (rem - 1) }
  | .idle => feedIdle w s
  | .collect op need ws => .next (accept op need (ws ++ [w]) s)

/-- `RunJob(job)` (R202): a command's operands are decoded when it runs (R196). -/
def runJob (j : Job) (s : State) : Result :=
  match j with
  | .data w => .next (dataJob w s)
  | .cmd ws =>
    match decode .gp0 ws with
    | .ok (i, []) => exec i s
    | _ => .refused (.malformedJob ws)

/-- `ExecStep`: run the job at the head of the queue (R202). -/
def execStep (s : State) : Result :=
  match s.queue with
  | [] => .next s
  | j :: q => runJob j { s with queue := q }

/-- At most `n` executor steps, none after a fault (R205). -/
def drainN : Nat → State → Result
  | 0, s => .next s
  | n + 1, s => andThen (execStep s) (drainN n)

/-- `Drain()`: no job enqueues a job, so the queue's length bounds the steps (R205). -/
def drain (s : State) : Result := drainN s.queue.length s

/-- `Feed` of several words, none after a fault (R115, R543). -/
def feedAll : List Word → State → Result
  | [], s => .next s
  | w :: ws, s => andThen (feed w s) (feedAll ws)

end Sys2Proof.Machine
end

