-- ==== Sys2Proof/Machine/Flags.lean ====
section
/-! DEFINITION. The Status word: its computed bits, packing and unpacking, and the outputs that are functions of
it (`spec/10_state.md` R25 to R32, `spec/48_gp1_control.md` R494, `spec/60_exceptions.md` R552). -/

namespace Sys2Proof.Machine

/-- GPUSTAT bit 13: 1 without vertical interlace, otherwise an unspecified bit, `free` (R28). -/
def interlaceBit (st : Status) (free : Bool) : Bool := if st.vInterlace then free else true

/-- GPUSTAT bit 14 (R29). -/
def reservedBit : Bool := false

/-- GPUSTAT bit 25, the DMA or data request (R30). -/
def dmaRequest (st : Status) : Bool :=
  match st.dmaDir.toNat with
  | 0 => false
  | 1 => true
  | 2 => st.readyDma
  | _ => st.readySend

/-- `pack(st, tim)`: the GPUSTAT word, bit 31 first (R25, R27). -/
def packStatus (st : Status) (odd free : Bool) : Word :=
  placeBit 31 odd ||| place 29 st.dmaDir ||| placeBit 28 st.readyDma ||| placeBit 27 st.readySend |||
    placeBit 26 st.readyCmd ||| placeBit 25 (dmaRequest st) ||| placeBit 24 st.irq |||
    placeBit 23 st.displayDisabled ||| placeBit 22 st.vInterlace ||| placeBit 21 st.depth24 |||
    placeBit 20 st.videoMode ||| placeBit 19 st.vres ||| place 17 st.hres1 ||| placeBit 16 st.hres2 |||
    placeBit 15 st.texDisable ||| placeBit 14 reservedBit ||| placeBit 13 (interlaceBit st free) |||
    placeBit 12 st.checkMask ||| placeBit 11 st.setMask ||| placeBit 10 st.drawToDisplay |||
    placeBit 9 st.dither ||| place 7 st.texDepth ||| place 5 st.semiMode ||| place 4 st.texPageY |||
    place 0 st.texPageX

/-- `unpack(x)`, the Status part: every stored field from its bits; bits 13, 14, 25 are ignored (R27). No command
uses it. -/
def unpackStatus (x : Word) : Status :=
  { texPageX := bits x 0 4, texPageY := bits x 4 1, semiMode := bits x 5 2, texDepth := bits x 7 2,
    dither := bit x 9, drawToDisplay := bit x 10, setMask := bit x 11, checkMask := bit x 12,
    texDisable := bit x 15, hres2 := bit x 16, hres1 := bits x 17 2, vres := bit x 19, videoMode := bit x 20,
    depth24 := bit x 21, vInterlace := bit x 22, displayDisabled := bit x 23, irq := bit x 24,
    readyCmd := bit x 26, readySend := bit x 27, readyDma := bit x 28, dmaDir := bits x 29 2 }

/-- `unpack(x)`, the timing part: bit 31 is the field flag (R25, R27). -/
def unpackOddField (x : Word) : Bool := bit x 31

/-- The GPUSTAT word a state reads as, with the free bit of its next draw (R25, R28). -/
def gpustat (s : State) : Word := packStatus s.st s.tim.oddField (Config.freeBit s.draws)

/-- The level output `irq1` (R552). -/
def irq1 (s : State) : Bool := s.st.irq

/-- The output `hresPixels` (R494). -/
def hresPixels (st : Status) : Nat :=
  if st.hres2 then 368
  else
    match st.hres1.toNat with
    | 0 => 256
    | 1 => 320
    | 2 => 512
    | _ => 640

/-- The output `vresLines` (R494). -/
def vresLines (st : Status) : Nat := if st.vres && st.vInterlace then 480 else 240

end Sys2Proof.Machine
end

