-- ==== Sys2Proof/Machine/Timing.lean ====
section
/-! DEFINITION. The display timing state machine (`spec/49_display_timing.md`). -/

namespace Sys2Proof.Machine

/-- `H_TIMING[videoMode]` (R512). -/
def hTiming (pal : Bool) : Nat := if pal then 3406 else 3413

/-- `V_TIMING[videoMode]` (R512). -/
def vTiming (pal : Bool) : Nat := if pal then 314 else 263

/-- `floor(cycles · 11 / 7)`, the remainder dropped at every tick (R514). -/
def tickIncrement (cycles : Nat) : Nat := cycles * 11 / 7

/-- The counters after one tick (R511, R515, R516). -/
def advance (st : Status) (cycles : Nat) (t : Timing) : Timing :=
  let vc := t.videoCycles + tickIncrement cycles
  if vc ≥ hTiming st.videoMode then
    if t.scanline + 1 ≥ vTiming st.videoMode then
      ⟨vc - hTiming st.videoMode, 0, if st.vInterlace && st.vres then !t.oddField else t.oddField⟩
    else ⟨vc - hTiming st.videoMode, t.scanline + 1, t.oddField⟩
  else ⟨vc, t.scanline, t.oddField⟩

/-- The output `dotDiv` (R522). -/
def dotDiv (st : Status) : Nat :=
  if st.hres2 then 7
  else
    match st.hres1.toNat with
    | 0 => 10
    | 1 => 8
    | 2 => 5
    | _ => 4

/-- The output `hblank` (R522). -/
def hblank (s : State) : Bool :=
  decide (s.tim.videoCycles < s.disp.x1.toNat ∨ s.tim.videoCycles > s.disp.x2.toNat)

/-- The output `vblank` (R522). -/
def vblank (s : State) : Bool := decide (s.tim.scanline < s.disp.y1.toNat ∨ s.tim.scanline > s.disp.y2.toNat)

/-- The sample of the timer collaborator (R522). -/
def sampleOutput (s : State) : Output := .sample (dotDiv s.st) (hblank s) (vblank s)

/-- The increments a tick may have are below this, in either video mode, so that at most one line ends in it: `cycles`
is at most 2167 (R514, `spec/93_implementation_defined.md` I12). -/
def tickBound : Nat := 3406

/-- The part of a tick after its drain: counters, pulse, sample (R511, R554). A tick whose increment reaches the bound
is refused (R514, I12, log 13). -/
def tickCounters (cycles : Nat) (s : State) : Result :=
  if tickIncrement cycles < tickBound then
    let s1 := emit .vblankPulse { s with tim := advance s.st cycles s.tim }
    .next (emit (sampleOutput s1) s1)
  else .refused (.tickTooLong cycles)

end Sys2Proof.Machine
end

