-- ==== Sys2Proof/Machine/Ports.lean ====
section
/-! DEFINITION. The port events, the DMA protocol and the tick as transitions of the state
(`spec/20_memory.md` R100 to R118, `spec/49_display_timing.md` R511). -/

namespace Sys2Proof.Machine

/-- The decoder is in the data phase (R109). -/
def inDataPhase (s : State) : Bool :=
  match s.dec with
  | .dataIn _ => true
  | _ => false

/-- The end of an event that fed words: the ready bit is set again when the decoder is idle (R100, R115), and the
data phase, if there is one, is the CPU's when `byCpu` (R109, log 9). -/
def settle (byCpu : Bool) (s : State) : State :=
  { s with
    st := { s.st with readyCmd := if s.dec = .idle then true else s.st.readyCmd }
    inByCpu := byCpu && inDataPhase s }

/-- `st.readyCmd <- 0`. -/
def clearReadyCmd (s : State) : State := { s with st := { s.st with readyCmd := false } }

/-- Words into the decoder, then the drain: the common shape of R100 and R115. -/
def feedAndDrain (byCpu : Bool) (ws : List Word) (s : State) : Result :=
  andThen (andThen (feedAll ws (clearReadyCmd s)) drain) fun t => .next (settle byCpu t)

/-- `WriteData(w)` (R100). -/
def writeData (w : Word) (s : State) : Result := feedAndDrain true [w] s

/-- `DmaBlock(words)` (R115). -/
def dmaBlock (ws : List Word) (s : State) : Result := feedAndDrain false ws s

/-- `WriteControl(w)`: the GP1 command runs at once (R101, R480). -/
def writeControl (w : Word) (s : State) : Result :=
  match decode .gp1 [w] with
  | .ok (i, _) => exec i s
  | .error _ => .next (raise (.unknownOpcode .gp1 (opcodeOf w)) s)

/-- The effect of a read of GPU_DATA on the state (R102, R448); a readback that goes on is the CPU's (R109). -/
def readData (s : State) : State :=
  let s1 := latchPixels s
  if live s1 then emit (.readData s1.gpuread) { s1 with outByCpu := s1.xferOut.isSome } else s1

/-- `ReadControl` (R105). With vertical interlace on, bit 13 is drawn afresh (R28). -/
def readControl (s : State) : State :=
  { emit (.readControl (gpustat s)) s with draws := if s.st.vInterlace then s.draws + 1 else s.draws }

/-- `BadAccess(port, width)` (R103). -/
def badAccess (port : Port) (width : Nat) (s : State) : State := raise (.misalignedAccess port width) s

/-- `DmaBlockRead(n)`: `ReadData` events whose words go to the collaborator's addresses (R116). -/
def dmaBlockRead : List Nat → State → State
  | [], s => s
  | a :: as, s =>
    let s1 := latchPixels s
    if live s1 then
      dmaBlockRead as (emit (.readData s1.gpuread) { s1 with mainMem := memWrite s1.mainMem a s1.gpuread })
    else s1

/-- The payload of a linked-list header at `addr` (R117), as main memory stands when the link runs (log 27), no
address wrapped (log 8). -/
def linkPayload (m : Memory) (addr : BitVec 24) : List Word :=
  (List.range (bits (memRead m addr.toNat) 24 8).toNat).map fun i => memRead m (addr.toNat + 4 * (i + 1))

/-- The address of the next header (R117). -/
def linkNext (m : Memory) (addr : BitVec 24) : BitVec 24 := bits (memRead m addr.toNat) 0 24

/-- One link of `DmaLinkedList(addr)`: its payload is fed and drained; then the transfer ends, or goes on at the next
header as the next event (R117, R118, log 11). R117 gives word-aligned addresses and says nothing of others: that the
four bytes at any address are the header there is the model's choice (DESIGN CHOICE, log 26). -/
def dmaLink (addr : BitVec 24) (s : State) : Result :=
  let next := linkNext s.mainMem addr
  andThen (dmaBlock (linkPayload s.mainMem addr) s) fun t =>
    .next (if next = 0xFFFFFF#24 then emit .dmaDone t else { t with events := .dmaLinkedList next :: t.events })

/-- `Tick(cycles)`: drain, counters, signals (R511). -/
def tick (cycles : Nat) (s : State) : Result := andThen (drain s) (tickCounters cycles)

/-! ### Which event runs -/

/-- A CPU-driven copy is in progress, so DMA events hold (R109). -/
def dmaHeld (s : State) : Bool := (inDataPhase s && s.inByCpu) || (s.xferOut.isSome && s.outByCpu)

/-- The events R109 holds. -/
def isDma (e : Event) : Bool :=
  match e with
  | .dmaBlock _ | .dmaBlockRead _ | .dmaLinkedList _ => true
  | .writeData _ | .writeControl _ | .readData | .readControl | .badAccess _ _ | .tick _ | .execStep => false

/-- The first enabled event and the events that remain: a held DMA event is passed over and keeps its place (R109,
log 9). -/
def pickEvent (held : Bool) : List Event → Option (Event × List Event)
  | [] => none
  | e :: es => if held && isDma e then (pickEvent held es).map fun r => (r.1, e :: r.2) else some (e, es)

/-- What an event does. -/
def runEvent (e : Event) (s : State) : Result :=
  match e with
  | .writeData w => writeData w s
  | .writeControl w => writeControl w s
  | .readData => .next (readData s)
  | .readControl => .next (readControl s)
  | .badAccess port width => .next (badAccess port width s)
  | .dmaBlock ws => dmaBlock ws s
  | .dmaBlockRead addrs => .next (dmaBlockRead addrs s)
  | .dmaLinkedList addr => dmaLink addr s
  | .tick cycles => tick cycles s
  | .execStep => execStep s

/-! ### Fetching: where the next step takes its words from -/

/-- The state that has received the words of a command but the last, which is the next event (log 15). -/
def stageGp0 (ws : List Word) (s : State) : State :=
  let s1 := { s with queue := [], halted := none }
  match ws with
  | [] => { s1 with dec := .idle }
  | w :: _ =>
    match gp0Words (opcodeOf w) with
    | none => { s1 with dec := .idle, events := .writeData w :: s1.events }
    | some need =>
      { s1 with
        dec := if need ≤ 1 then .idle else .collect (opcodeOf w) need (ws.take (need - 1))
        events := .writeData ((ws.take need).getLastD w) :: s1.events }

/-- The state whose next event is the control word (log 15). -/
def stageGp1 (ws : List Word) (s : State) : State :=
  { s with halted := none, events := .writeControl (ws.headD 0#32) :: s.events }

end Sys2Proof.Machine
end

