-- ==== Sys2Proof/Machine/Step.lean ====
section
/-! DEFINITION. One step of the machine: the next enabled event of the schedule. -/

namespace Sys2Proof.Machine

/-- A halted block has no step (R545); with no enabled event nothing advances (R510, R592). -/
def step (s : State) : Host.Outcome State Fault Refusal :=
  match s.halted with
  | some f => .fault f
  | none =>
    match pickEvent (dmaHeld s) s.events with
    | none => .next s
    | some (e, rest) => runEvent e { s with events := rest }

/-- `s` with the instruction whose bits are `w`, numbered as the opcode table numbers them, as what the next step
runs (log 15). -/
def State.withFetchWord (s : State) (nbits w : Nat) : State :=
  let ws := tableWords nbits w
  match tableChannel ws with
  | .gp0 => stageGp0 ws s
  | .gp1 => stageGp1 ws s

end Sys2Proof.Machine
end

