-- ==== Sys2Proof/Safety.lean ====
section
/-! DEFINITION. What a claim calls a safe run: no fault, VRAM and main memory in their canonical form, the two
stores of VRAM in agreement, and the block at rest between events. -/

namespace Sys2Proof.Machine

/-- Every written pixel's 15-bit value is `narrow` of its 24-bit value, so the mask bits agree too (R99). -/
abbrev Vram.agree (v : Vram) : Prop := ∀ e ∈ v, e.2.p15 = narrow e.2.c24

/-- The invariant of the stores: canonical forms, every listed pixel in the grid, the two formats in agreement
(R91, R99). -/
structure StoreInv (s : State) : Prop where
  vramForm : s.vram.wf
  vramAgree : s.vram.agree
  memForm : s.mainMem.wf

/-- The decoder state and the CPU to VRAM cursor fit together (R22, R38, R195, R197): a half-assembled command has an
admitted opcode, its own, and fewer words than it needs; the data phase expects exactly the words that carry the
pixels still to come. -/
def DecoderInv (d : Dec) (x : Option Xfer) : Prop :=
  match d with
  | .idle => x = none
  | .collect op need ws =>
    x = none ∧ gp0Words op = some need ∧ ws.length < need ∧ ws.head?.map opcodeOf = some op
  | .dataIn rem => ∃ t, x = some t ∧ 0 < rem ∧ rem = (xferTotal t - t.n + 1) / 2

/-- The block at rest between two events: no fault, the queue empty (R206), the decoder and the cursors consistent,
GPUSTAT bits 27 and 28 as R25, R446 and R448 say, the counters in range (R40, R526). -/
structure AtRest (s : State) : Prop where
  noFault : s.halted = none
  queueEmpty : s.queue = []
  decoder : DecoderInv s.dec s.xferIn
  sendBit : s.st.readySend = s.xferOut.isSome
  dmaBit : s.st.readyDma = true
  cursorOut : ∀ t, s.xferOut = some t → t.n < xferTotal t
  cycles : s.tim.videoCycles < 3413
  lines : s.tim.scanline < 314

/-- The two states differ at most in VRAM and in `halted`: what a drawing command, a fill or a copy inside VRAM may
change (R248, R304, R341, R432, R435). -/
def OnlyVram (s t : State) : Prop := t = { s with vram := t.vram, halted := t.halted }

/-- A texture whose every texel and CLUT entry lies inside the grid, for texture coordinates of 8 bits (R390): the
bounds of `44_texture_sampler.md` R390 by depth. -/
def TexAttr.fits (a : TexAttr) : Prop :=
  match a.depth.toNat with
  | 0 => a.pageX + 63 < 1024 ∧ a.clutX + 15 < 1024 ∧ a.pageY + 255 < 512 ∧ a.clutY < 512
  | 1 => a.pageX + 127 < 1024 ∧ a.clutX + 255 < 1024 ∧ a.pageY + 255 < 512 ∧ a.clutY < 512
  | _ => a.pageX + 255 < 1024 ∧ a.pageY + 255 < 512

end Sys2Proof.Machine
end

