-- ==== Sys2Proof/Certificates/Slice0/Obligations.lean ====
section
/-! DEFINITION. The statements for the provers. The words they are written in stand first, in `Sys2Proof.Claims`:
they say in plain numbers what the rules of `spec/` say, apart from the definitions the machine runs on. -/

open Sys2Proof Sys2Proof.Machine

namespace Sys2Proof.Claims

/-! ### Words the statements share -/

/-- The pixel at column `x`, row `y` of the grid. -/
def px (s : State) (x y : Nat) : Pixel := pixelOf s (y * 1024 + x)

/-- `WriteData` events one after the other, none after a fault. -/
def writeAll : List Word → State → Result
  | [], s => .next s
  | w :: ws, s => andThen (writeData w s) (writeAll ws)

/-- `(x, y)` lies in the drawing area, left and top included, right and bottom excluded (R34). -/
abbrev InArea (e : DrawEnv) (x y : Int) : Prop :=
  (e.areaLeft.toNat : Int) ≤ x ∧ x < e.areaRight.toNat ∧ (e.areaTop.toNat : Int) ≤ y ∧ y < e.areaBottom.toNat

/-- `(x, y)` lies in the block of `w` by `h` pixels at `(x0, y0)`. -/
abbrev InBlock (x0 y0 : Int) (w h : Nat) (x y : Int) : Prop := x0 ≤ x ∧ x < x0 + w ∧ y0 ≤ y ∧ y < y0 + h

/-- A transfer rectangle inside the grid. -/
abbrev InGrid (p : PosXY) (z : SizeWH) : Prop := p.x.toNat + z.w.toNat ≤ 1024 ∧ p.y.toNat + z.h.toNat ≤ 512

/-- One channel of the four semi-transparency formulas (R408). -/
def mix (mode : BitVec 2) (bg fg : Nat) : Nat :=
  if mode = 0#2 then (bg + fg) / 2
  else if mode = 1#2 then min (bg + fg) 255
  else if mode = 2#2 then bg - fg
  else min (bg + fg / 4) 255

/-- One channel of a modulated texel (R406). -/
def scaled (base t : Nat) : Nat := min (base * t / 128) 255

/-- The colour written for foreground `c` over `old`: blended or not, the mask bit forced by `setMask` (R404, R408). -/
def written (st : Status) (blend : Bool) (c : C24) (old : Pixel) : Pixel :=
  let ch (b f : BitVec 8) : BitVec 8 := if blend then BitVec.ofNat 8 (mix st.semiMode b.toNat f.toNat) else f
  let n : C24 := ⟨c.m || st.setMask, ch old.c24.r c.r, ch old.c24.g c.g, ch old.c24.b c.b⟩
  ⟨n, narrow n⟩

/-- What an untextured pixel of colour `c` makes of `old` (R400, R402). -/
def plain (st : Status) (semi : Bool) (c : Rgb) (old : Pixel) : Pixel :=
  if st.checkMask ∧ old.c24.m then old else written st semi ⟨false, c.r, c.g, c.b⟩ old

/-- What a textured pixel with texel `t` and base colour `c` makes of `old` (R400 to R407). -/
def textured (st : Status) (semi raw : Bool) (c : Rgb) (t old : Pixel) : Pixel :=
  if st.checkMask ∧ old.c24.m then old
  else if t.p15 = 0#16 then old
  else
    let f : C24 :=
      if raw then t.c24
      else ⟨t.c24.m, BitVec.ofNat 8 (scaled c.r.toNat t.c24.r.toNat), BitVec.ofNat 8 (scaled c.g.toNat t.c24.g.toNat),
        BitVec.ofNat 8 (scaled c.b.toNat t.c24.b.toNat)⟩
    written st (semi && t.c24.m) f old

/-- A VRAM read of the sampler: the pixel, or the location outside the grid (R98, R390). -/
def look (s : State) (x y : Nat) : Except (Nat × Nat) Pixel :=
  if x < 1024 ∧ y < 512 then .ok (px s x y) else .error (x, y)

/-- The texel at `(u, v)`, both in 0..255: the three depths of R385, R386, R387. -/
def texel (s : State) (a : TexAttr) (u v : Nat) : Except (Nat × Nat) Pixel :=
  if a.depth = 0#2 then
    match look s (a.pageX + u / 4) (a.pageY + v) with
    | .error e => .error e
    | .ok w => look s (a.clutX + w.p15.toNat / 16 ^ (u % 4) % 16) a.clutY
  else if a.depth = 1#2 then
    match look s (a.pageX + u / 2) (a.pageY + v) with
    | .error e => .error e
    | .ok w => look s (a.clutX + w.p15.toNat / 256 ^ (u % 2) % 256) a.clutY
  else look s (a.pageX + u) (a.pageY + v)

/-- A texture coordinate cut to 8 bits and through the texture window (R382, R383). -/
def windowed (pre post : BitVec 8) (u : Int) : Nat := ((u % 256).toNat &&& pre.toNat) ||| post.toNat

/-! ### Rectangles -/

/-- The corner of a rectangle or a line's end on the screen: field plus offset, both signed, not wrapped (R298,
R338). -/
def screenX (s : State) (v : Vertex) : Int := v.x.toInt + s.env.offX.toInt
/-- The row of a vertex on the screen. -/
def screenY (s : State) (v : Vertex) : Int := v.y.toInt + s.env.offY.toInt

/-- `t` is `s` with an untextured block of pixels drawn: every pixel of the grid is as R339 and R400 say, and nothing
but VRAM differs. -/
def RectDrawn (s t : State) (pos : Vertex) (w h : Nat) (c : Rgb) (semi : Bool) : Prop :=
  t = { s with vram := t.vram } ∧
  ∀ x y : Nat, x < 1024 → y < 512 →
    px t x y =
      if InArea s.env x y ∧ InBlock (screenX s pos) (screenY s pos) w h x y then plain s.st semi c (px s x y)
      else px s x y

/-- The pixels of a span one after the other, rows top to bottom, each row left to right, none after a fault: pixel
`n` is column `n mod w`, row `n div w`. -/
def scan (b : Span) (f : Int → Int → State → State) (s : State) : State :=
  (List.range ((b.xe - b.xs).toNat * (b.ye - b.ys).toNat)).foldl
    (fun t n =>
      if t.halted = none then
        f (b.xs + (n % (b.xe - b.xs).toNat : Nat)) (b.ys + (n / (b.xe - b.xs).toNat : Nat)) t
      else t) s

/-- The block of a rectangle cut to the drawing area (R340). -/
def cutToArea (s : State) (x0 x1 y0 y1 : Int) : Span :=
  ⟨max x0 s.env.areaLeft.toNat, min x1 s.env.areaRight.toNat, max y0 s.env.areaTop.toNat,
    min y1 s.env.areaBottom.toNat⟩

/-- A textured rectangle as one scan of its span, with the coordinates of R334 and R342. -/
def rectScan (s : State) (pos : Vertex) (t : TexCoord) (a : TexAttr) (w h : Nat) (c : Rgb) (semi : Bool) : State :=
  let x0 := screenX s pos
  let y0 := screenY s pos
  scan (cutToArea s x0 (x0 + w) y0 (y0 + h))
    (fun x y u =>
      drawPixel x y c
        (some ⟨if s.env.flipX then t.u.toNat - (x - x0) else t.u.toNat + (x - x0),
          if s.env.flipY then t.v.toNat - (y - y0) else t.v.toNat + (y - y0), a⟩) semi u) s

/-- The texture attributes of a rectangle: CLUT from the command, page and depth from Status (R336, R146). -/
def rectAttr (s : State) (c : Clut) (raw : Bool) : TexAttr :=
  ⟨c.x.toNat * 16, c.y.toNat, s.st.texPageX.toNat * 64, s.st.texPageY.toNat * 256, s.st.texDepth, raw⟩

/-- The texture attributes of a polygon (R235, R146, R147). -/
def polyAttr (c : Clut) (p : Page) (raw : Bool) : TexAttr :=
  ⟨c.x.toNat * 16, c.y.toNat, p.x.toNat * 64, p.y.toNat * 256, p.depth, raw⟩

/-! ### Polygons -/

/-- A vertex on the screen (R231, R233). -/
def vert (s : State) (v : Vertex) (u w : Int) (c : Rgb) : PVertex := ⟨screenX s v, screenY s v, u, w, c⟩

/-- The triangle that is rasterized: vertices clamped, wound to a positive area; none when the area is zero (R234,
R238). -/
def wound (s : State) (p0 p1 p2 : PVertex) : Option Tri :=
  windTri (clampVertex s.env p0) (clampVertex s.env p1) (clampVertex s.env p2)

/-- What one untextured triangle makes of the pixel `old` at `(x, y)` (R240, R242, R247). -/
def triPaint (s : State) (p0 p1 p2 : PVertex) (shaded semi : Bool) (x y : Nat) (old : Pixel) : Pixel :=
  match wound s p0 p1 p2 with
  | none => old
  | some t =>
    if InArea s.env x y ∧ (triBox t).xs ≤ x ∧ x < (triBox t).xe ∧ (triBox t).ys ≤ y ∧ y < (triBox t).ye ∧
        covers t x y then
      plain s.st semi (if shaded then interpColour t x y else t.p0.c) old
    else old

/-- `t` is `s` with a 3-point untextured polygon drawn, and nothing but VRAM differs. -/
def TriDrawn (s t : State) (p0 p1 p2 : PVertex) (shaded semi : Bool) : Prop :=
  t = { s with vram := t.vram } ∧
  ∀ x y : Nat, x < 1024 → y < 512 → px t x y = triPaint s p0 p1 p2 shaded semi x y (px s x y)

/-- `t` is `s` with a 4-point untextured polygon drawn: triangle 0-1-2, then 1-2-3 over it (R246). -/
def QuadDrawn (s t : State) (p0 p1 p2 p3 : PVertex) (shaded semi : Bool) : Prop :=
  t = { s with vram := t.vram } ∧
  ∀ x y : Nat, x < 1024 → y < 512 →
    px t x y = triPaint s p1 p2 p3 shaded semi x y (triPaint s p0 p1 p2 shaded semi x y (px s x y))

/-- A textured triangle as one scan of its span, the environment and Status being those of `s` (R247). -/
def triScan (s : State) (p0 p1 p2 : PVertex) (shaded : Bool) (a : TexAttr) (semi : Bool) (u : State) : State :=
  match wound s p0 p1 p2 with
  | none => u
  | some t =>
    scan (cutToArea s (triBox t).xs (triBox t).xe (triBox t).ys (triBox t).ye)
      (fun x y u =>
        if covers t x y then
          drawPixel x y (if shaded then interpColour t x y else t.p0.c)
            (some ⟨interp t t.p0.u t.p1.u t.p2.u x y, interp t t.p0.v t.p1.v t.p2.v x y, a⟩) semi u
        else u) u

/-! ### Lines -/

/-- The extent of a line along each axis. -/
def lineDx (a b : Vertex) : Int := b.x.toInt - a.x.toInt
/-- The extent of a line along Y. -/
def lineDy (a b : Vertex) : Int := b.y.toInt - a.y.toInt

/-- The line's major axis is X; a tie takes Y (R294). -/
abbrev xMajor (a b : Vertex) : Prop := (lineDx a b).natAbs > (lineDy a b).natAbs

/-- The major extent (R294). -/
def lineLen (a b : Vertex) : Nat := max (lineDx a b).natAbs (lineDy a b).natAbs

/-- The minor extent (R294). -/
def lineMinor (a b : Vertex) : Nat := min (lineDx a b).natAbs (lineDy a b).natAbs

/-- Pixel `i` of a line: `i` steps along the major axis, and along the minor axis as often as the accumulator, which
starts at half the major extent and grows by the minor extent, has reached the major extent (R294). -/
def linePoint (s : State) (a b : Vertex) (i : Nat) : Int × Int :=
  let minor : Nat := (lineLen a b / 2 + i * lineMinor a b) / lineLen a b
  if xMajor a b then (screenX s a + (lineDx a b).sign * i, screenY s a + (lineDy a b).sign * minor)
  else (screenX s a + (lineDx a b).sign * minor, screenY s a + (lineDy a b).sign * i)

/-- One channel of pixel `i` of a line of major extent `l` (R296). -/
def lineMix (l i : Nat) (c0 c1 : BitVec 8) : BitVec 8 :=
  if l = 0 then c0 else BitVec.ofNat 8 ((c0.toNat * (l - i) + c1.toNat * i) / l)

/-- The colour of pixel `i` (R296). -/
def lineShade (a b : Vertex) (c0 c1 : Rgb) (i : Nat) : Rgb :=
  ⟨lineMix (lineLen a b) i c0.r c1.r, lineMix (lineLen a b) i c0.g c1.g, lineMix (lineLen a b) i c0.b c1.b⟩

/-- `t` is `s` with a line drawn (R293 to R303): a line of too long a span draws nothing; otherwise its pixels inside
the drawing area are drawn and every other pixel keeps its value; nothing but VRAM differs. -/
def LineDrawn (s t : State) (a b : Vertex) (c0 c1 : Rgb) (semi : Bool) : Prop :=
  t = { s with vram := t.vram } ∧
  ((lineDx a b).natAbs > 0x3FF ∨ (lineDy a b).natAbs > 0x1FF → t = s) ∧
  ((lineDx a b).natAbs ≤ 0x3FF ∧ (lineDy a b).natAbs ≤ 0x1FF →
    ∀ x y : Nat, x < 1024 → y < 512 →
      (∀ i, i ≤ lineLen a b → linePoint s a b i = ((x : Int), (y : Int)) → InArea s.env x y →
        px t x y = plain s.st semi (lineShade a b c0 c1 i) (px s x y)) ∧
      ((¬ InArea s.env x y ∨ ∀ i, i ≤ lineLen a b → linePoint s a b i ≠ ((x : Int), (y : Int))) →
        px t x y = px s x y))

/-! ### Transfers -/

/-- What a data pixel `p` makes of `old` (R441, R442). -/
def stored (st : Status) (p : P15) (old : Pixel) : Pixel :=
  if st.checkMask ∧ old.p15.getLsbD 15 then old
  else
    let q := if st.setMask then p ||| 0x8000#16 else p
    ⟨widen q, q⟩

/-- Column and row of pixel `n` of a transfer (R454). -/
def xferAt (t : Xfer) (n : Nat) : Nat × Nat := (t.x.toNat + n % t.w.toNat, t.y.toNat + n / t.w.toNat)

/-- A place inside the grid. -/
abbrev OnGrid (p : Nat × Nat) : Prop := p.1 < 1024 ∧ p.2 < 512

/-- The fault of a place outside the grid (R98). -/
def offGrid (p : Nat × Nat) : Option Fault := some (.vramAddressOutOfRange p.1 p.2)

/-- The next pixel of a transfer is in the grid, and so is the one after it when there is one. -/
abbrev PairOnGrid (t : Xfer) : Prop :=
  OnGrid (xferAt t t.n) ∧ (t.n + 1 < t.w.toNat * t.h.toNat → OnGrid (xferAt t (t.n + 1)))

/-- Where pixel `n` of a copy inside VRAM comes from (R435). -/
def copySrc (o : CopyVV) (n : Nat) : Nat × Nat :=
  (o.src.x.toNat + n % o.size.w.toNat, o.src.y.toNat + n / o.size.w.toNat)

/-- Where pixel `n` of a copy inside VRAM goes (R435). -/
def copyDst (o : CopyVV) (n : Nat) : Nat × Nat :=
  (o.dst.x.toNat + n % o.size.w.toNat, o.dst.y.toNat + n / o.size.w.toNat)

/-- `s` after the first `k` pixels of a copy inside VRAM, in row order, each source pixel read just before its
destination is written (R435, R436, R437). -/
def copied (o : CopyVV) (s : State) (k : Nat) : State :=
  (List.range k).foldl
    (fun (u : State) n =>
      let c := (px u (copySrc o n).1 (copySrc o n).2).c24
      let d := px u (copyDst o n).1 (copyDst o n).2
      let c' : C24 := ⟨c.m || s.st.setMask, c.r, c.g, c.b⟩
      if s.st.checkMask ∧ d.c24.m then u
      else { u with vram := putCell ((copyDst o n).2 * 1024 + (copyDst o n).1) ⟨c', narrow c'⟩ u.vram }) s

/-- The data words as a readback returns them: the spare half of the last word is 0 when the pixel count is odd
(R164). -/
def readBack (z : SizeWH) (data : List Word) : List Word :=
  if z.w.toNat * z.h.toNat % 2 = 0 then data
  else data.dropLast ++ (data.getLast?.map fun w => w &&& 0xFFFF#32).toList

/-- An opcode that draws: polygons, single lines, rectangles. -/
def Draws (i : Instr) : Prop :=
  i.channel = .gp0 ∧ 0x20 ≤ i.opcode.toNat ∧ i.opcode.toNat < 0x80 ∧ isPolyline i.opcode = false

/-! ### The faults of the decoder -/

/-- GP0 opcodes that no table lists (R163 (a)). -/
abbrev Unlisted (op : BitVec 8) : Prop :=
  3 ≤ op.toNat ∧ op.toNat ≤ 0x1E ∨ 0x81 ≤ op.toNat ∧ op.toNat ≤ 0x9F ∨ 0xA1 ≤ op.toNat ∧ op.toNat ≤ 0xBF ∨
    0xC1 ≤ op.toNat ∧ op.toNat ≤ 0xE0 ∨ 0xE7 ≤ op.toNat

/-- A polyline opcode: bits 7:5 are `010` and bit 3 is set (R322). -/
abbrev PolylineOp (op : BitVec 8) : Prop := op.extractLsb' 5 3 = 2#3 ∧ op.getLsbD 3 = true

/-- The first word of a command whose opcode is unlisted, or a polyline, stops the step on `f`, with nothing
buffered, enqueued or drawn. -/
def FirstWordRaises (cond : BitVec 8 → Prop) (f : BitVec 8 → Fault) : Prop :=
  ∀ (s : State) (w : Word) (rest : List Event),
    s.halted = none → s.dec = .idle → s.events = .writeData w :: rest → cond (opcodeOf w) →
    step s = .next { s with
      events := rest, st := { s.st with readyCmd := false }, halted := some (f (opcodeOf w)) }

/-- The last header word of a copy of zero width or height stops the step, with nothing enqueued. -/
def ZeroSizeRaises : Prop :=
  ∀ (s : State) (z : Word) (rest : List Event) (op : BitVec 8) (need : Nat) (ws : List Word),
    s.halted = none → s.dec = .collect op need ws → ws.length + 1 = need → s.events = .writeData z :: rest →
    (op = 0x80#8 ∧ need = 4 ∨ op = 0xA0#8 ∧ need = 3 ∨ op = 0xC0#8 ∧ need = 3) →
    (bits z 0 16 = 0#16 ∨ bits z 16 16 = 0#16) →
    step s = .next { s with
      events := rest, st := { s.st with readyCmd := false }, dec := .idle,
      halted := some (.unsupportedFeature .zeroSizeTransfer op) }

/-- In the halted state there is no next state (R545). -/
def NoStepWhenHalted : Prop := ∀ s : State, s.halted ≠ none → ∀ t, step s ≠ .next t

end Sys2Proof.Claims

open Sys2Proof.Claims

/-! ## Encoding and the decoder -/

/-- Decoding the words of any instruction gives it back, whatever words follow (R141 to R162). The ignored bits of
the encoder's words are zero, log 14. -/
def Obligations.DecodeEncode : Prop :=
  ∀ (i : Instr) (rest : List Word), decode i.channel (encode i ++ rest) = .ok (i, rest)

/-- The word count of an opcode follows from its bits (R152, R153, R154). -/
def Obligations.WordCountFromBits : Prop :=
  ∀ op : BitVec 8,
    let b (i : Nat) : Nat := (op.getLsbD i).toNat
    (op.extractLsb' 5 3 = 1#3 →
      gp0Words op = some ((3 + b 3) * (1 + b 2) + (if op.getLsbD 4 then 3 + b 3 else 1))) ∧
    (op.extractLsb' 5 3 = 2#3 → op.getLsbD 3 = false → gp0Words op = some (3 + b 4)) ∧
    (op.extractLsb' 5 3 = 2#3 → op.getLsbD 3 = true → gp0Words op = none) ∧
    (op.extractLsb' 5 3 = 3#3 →
      gp0Words op = some (2 + b 2 + (if op.extractLsb' 3 2 = 0#2 then 1 else 0)))

/-- Words written out from the encoding tables decode to the instructions they stand for. -/
def Obligations.WrittenWordsDecode : Prop :=
  decode .gp0 [0x200000FF#32, 0x00000000#32, 0x00000004#32, 0x00040000#32] =
      .ok (.polyF3 ⟨⟨0xFF, 0, 0⟩, ⟨0, 0⟩, ⟨4, 0⟩, ⟨0, 4⟩⟩, []) ∧
  decode .gp0 [0x500000FF#32, 0x00010001#32, 0x0000FF00#32, 0x00010005#32] =
      .ok (.lineG ⟨⟨0xFF, 0, 0⟩, ⟨1, 1⟩, ⟨0, 0xFF, 0⟩, ⟨5, 1⟩⟩, []) ∧
  decode .gp0 [0x65000000#32, 0x00010001#32, 0x78000000#32, 0x00020004#32] =
      .ok (.rectTVR ⟨⟨0, 0, 0⟩, ⟨1, 1⟩, ⟨0, 0⟩, ⟨0, 480⟩, ⟨4, 2⟩⟩, []) ∧
  decode .gp0 [0x80000000#32, 0x00020001#32, 0x00640064#32, 0x00010003#32] =
      .ok (.copyVV ⟨⟨1, 2⟩, ⟨100, 100⟩, ⟨3, 1⟩⟩, []) ∧
  decode .gp0 [0xE5200400#32] = .ok (.offset ⟨0x400, 0x400⟩, []) ∧
  decode .gp1 [0x08000027#32] =
      .ok (.g1DispMode ⟨3, true, false, false, true, false, false⟩, [])

/-- The decoder law: from idle, the words of an admitted command enqueue nothing before the last word and exactly one
`Cmd` job at the last, and leave the decoder idle; the CPU to VRAM copy leaves it in its data phase, and idle after
that many further words (R198, which the spec derives). The copies are those of non-zero size, which R195 admits. -/
def Obligations.DecoderLaw : Prop :=
  ∀ (s : State) (op : BitVec 8) (need : Nat) (w : Word) (ws : List Word),
    s.halted = none → s.dec = .idle → gp0Words op = some need → opcodeOf w = op → (w :: ws).length = need →
    (∀ z, copySize op (w :: ws) = some z → z.nonzero = true) →
    (∀ k, 0 < k → k < need →
      feedAll ((w :: ws).take k) s = .next { s with dec := .collect op need ((w :: ws).take k) }) ∧
    (op ≠ 0xA0#8 → feedAll (w :: ws) s = .next { s with queue := s.queue ++ [.cmd (w :: ws)] }) ∧
    (op = 0xA0#8 → ∀ z, copySize op (w :: ws) = some z →
      feedAll (w :: ws) s = .next { s with dec := .dataIn (dataWords z), queue := s.queue ++ [.cmd (w :: ws)] } ∧
      ∀ data : List Word, data.length = dataWords z →
        feedAll (w :: ws ++ data) s = .next { s with queue := s.queue ++ .cmd (w :: ws) :: data.map .data })

/-- A step whose next word completes a well-formed command runs that command: the ready bit is cleared, the decoder
returns to idle or enters the data phase, `exec` runs, and the ready bit is set again when the decoder is idle
(R100, R192, R195, R202). A control word runs its command at once (R101, R480). -/
def Obligations.StepRunsDecoded : Prop :=
  (∀ (s : State) (w : Word) (rest : List Event) (old : List Word) (i : Instr),
    s.halted = none → s.queue = [] → s.events = .writeData w :: rest → i.wf = true →
    (s.dec = .idle ∧ old = [] ∨ ∃ op need, s.dec = .collect op need old ∧ old ≠ [] ∧ old.head?.map opcodeOf = some op ∧
      gp0Words op = some need ∧ old.length + 1 = need) →
    decode .gp0 (old ++ [w]) = .ok (i, []) →
    step s =
      andThen
        (exec i { s with
          events := rest
          st := { s.st with readyCmd := false }
          dec := match i with
            | .copyCV o => .dataIn (dataWords o.size)
            | _ => .idle })
        (fun t => .next { t with
          st := { t.st with readyCmd := if t.dec = .idle then true else t.st.readyCmd }
          inByCpu := inDataPhase t })) ∧
  (∀ (s : State) (w : Word) (rest : List Event) (i : Instr),
    s.halted = none → s.events = .writeControl w :: rest → decode .gp1 [w] = .ok (i, []) →
    step s = exec i { s with events := rest })

/-- The three faults of the decoder at the words that raise them, with what the block holds then: an unknown opcode
and a polyline at the first word, with nothing buffered; a zero-size copy at its last header word (R199). -/
def Obligations.DecoderFaults : Prop :=
  FirstWordRaises Unlisted (.unknownOpcode .gp0) ∧
  FirstWordRaises PolylineOp (.unsupportedFeature .polyline) ∧
  ZeroSizeRaises

/-- A polyline opcode as the first word raises at once, with nothing buffered, enqueued or drawn; the same word as an
operand or as pixel data raises no such fault; the 16 polyline commands do that and nothing else (R322). -/
def Obligations.PolylinesRaise : Prop :=
  FirstWordRaises PolylineOp (.unsupportedFeature .polyline) ∧
  (∀ (s : State) (w : Word), s.halted = none → s.dec ≠ .idle → PolylineOp (opcodeOf w) →
    ∃ t, feed w s = .next t ∧ ∀ op, t.halted ≠ some (.unsupportedFeature .polyline op)) ∧
  ∀ (s : State),
    ∀ k ∈ [(Instr.polyline48, 0x48#8), (.polyline49, 0x49#8), (.polyline4a, 0x4A#8), (.polyline4b, 0x4B#8),
        (.polyline4c, 0x4C#8), (.polyline4d, 0x4D#8), (.polyline4e, 0x4E#8), (.polyline4f, 0x4F#8),
        (.polyline58, 0x58#8), (.polyline59, 0x59#8), (.polyline5a, 0x5A#8), (.polyline5b, 0x5B#8),
        (.polyline5c, 0x5C#8), (.polyline5d, 0x5D#8), (.polyline5e, 0x5E#8), (.polyline5f, 0x5F#8)],
      exec k.1 s = .next { s with halted := some (.unsupportedFeature .polyline k.2) }

/-- A copy of zero width or height raises when its last header word arrives; a fill of zero width or height fills
nothing and is no fault (R431). -/
def Obligations.ZeroSize : Prop :=
  ZeroSizeRaises ∧
  ∀ (s : State) (o : Fill), o.size.w = 0#16 ∨ o.size.h = 0#16 → exec (.fill o) s = .next s

/-! ## Faults and port events -/

/-- A halted block has no step, whatever the schedule; that the model answers the fault it halted on is log 2
(R545, R546). -/
def Obligations.HaltedHasNoStep : Prop :=
  ∀ (s : State) (f : Fault), s.halted = some f → step s = .fault f

/-- Any access that is not 32 bits wide and aligned raises, and no state but `halted` changes (R103). -/
def Obligations.MisalignedAccessRaises : Prop :=
  ∀ (s : State) (p : Port) (n : Nat) (rest : List Event), s.halted = none → s.events = .badAccess p n :: rest →
    step s = .next { s with events := rest, halted := some (.misalignedAccess p n) }

/-- `WriteControl` compares the whole byte: ten numbers are commands, every other raises before anything changes, and
a halted block has no step (R480). -/
def Obligations.ControlDispatch : Prop :=
  NoStepWhenHalted ∧
  ∀ (s : State) (w : Word) (rest : List Event), s.halted = none → s.events = .writeControl w :: rest →
    let n := (opcodeOf w).toNat
    (n > 8 ∧ n ≠ 0x10 →
      step s = .next { s with events := rest, halted := some (.unknownOpcode .gp1 (opcodeOf w)) }) ∧
    (n = 0 → step s = exec .g1Reset { s with events := rest }) ∧
    (n = 1 → step s = exec .g1ClrQ { s with events := rest }) ∧
    (n = 2 → step s = exec .g1AckIrq { s with events := rest }) ∧
    (n = 3 → step s = exec (.g1DispEn ⟨bit w 0⟩) { s with events := rest }) ∧
    (n = 4 → step s = exec (.g1DmaDir ⟨bits w 0 2⟩) { s with events := rest }) ∧
    (n = 5 → step s = exec (.g1DispStart ⟨bits w 0 10, bits w 10 9⟩) { s with events := rest }) ∧
    (n = 6 → step s = exec (.g1HRange ⟨bits w 0 12, bits w 12 12⟩) { s with events := rest }) ∧
    (n = 7 → step s = exec (.g1VRange ⟨bits w 0 10, bits w 10 10⟩) { s with events := rest }) ∧
    (n = 8 → step s = exec (.g1DispMode ⟨bits w 0 2, bit w 2, bit w 3, bit w 4, bit w 5, bit w 6, bit w 7⟩)
      { s with events := rest }) ∧
    (n = 0x10 → step s = exec (.g1GetInfo ⟨bits w 0 4⟩) { s with events := rest })

/-- A read of GPU_CONTROL returns the packed Status word and acknowledges nothing, and a halted block has no step
(R105). With vertical interlace on, bit 13 is drawn afresh, so the counter of draws moves on: the counter is the
model's own, log 7. -/
def Obligations.ReadControlEvent : Prop :=
  NoStepWhenHalted ∧
  ∀ (s : State) (rest : List Event), s.halted = none → s.events = .readControl :: rest →
    step s = .next { s with
      events := rest
      outputs := .readControl (packStatus s.st s.tim.oddField (Config.freeBit s.draws)) :: s.outputs
      draws := if s.st.vInterlace then s.draws + 1 else s.draws }

/-- A read of GPU_DATA without a readback returns the latch and changes nothing; during a readback it latches the next
two pixels, the earlier in the low half and 0 for a pixel that does not exist, and ends the readback with the last
pixel (R102, R448). A pixel outside the grid raises the fault with its location: nothing is latched or returned, and
the cursor has passed the place (R430, R543). That a readback then counts as drained by the CPU is log 9. -/
def Obligations.ReadDataEvent : Prop :=
  ∀ (s : State) (rest : List Event), s.halted = none → s.events = .readData :: rest →
    (s.xferOut = none →
      step s = .next { s with
        events := rest, outputs := .readData s.gpuread :: s.outputs, outByCpu := false }) ∧
    (∀ t, s.xferOut = some t → t.n < t.w.toNat * t.h.toNat →
      (PairOnGrid t →
        let lo := (px s (xferAt t t.n).1 (xferAt t t.n).2).p15
        let last := t.n + 1 ≥ t.w.toNat * t.h.toNat
        let hi := if last then 0#16 else (px s (xferAt t (t.n + 1)).1 (xferAt t (t.n + 1)).2).p15
        let ends := t.n + 2 ≥ t.w.toNat * t.h.toNat
        step s = .next { s with
          events := rest
          gpuread := hi ++ lo
          outputs := .readData (hi ++ lo) :: s.outputs
          xferOut := if ends then none else some { t with n := t.n + 2 }
          st := { s.st with readySend := if ends then false else s.st.readySend }
          outByCpu := if ends then false else true }) ∧
      (¬ OnGrid (xferAt t t.n) →
        step s = .next { s with
          events := rest, xferOut := some { t with n := t.n + 1 }, halted := offGrid (xferAt t t.n) }) ∧
      (OnGrid (xferAt t t.n) → t.n + 1 < t.w.toNat * t.h.toNat → ¬ OnGrid (xferAt t (t.n + 1)) →
        step s = .next { s with
          events := rest, xferOut := some { t with n := t.n + 2 }, halted := offGrid (xferAt t (t.n + 1)) }))

/-! ## Status -/

/-- Where every field stands in GPUSTAT, and how the three computed bits are made (R25, R28, R29, R30). -/
def Obligations.GpustatLayout : Prop :=
  ∀ (st : Status) (odd free : Bool),
    let g := packStatus st odd free
    bits g 0 4 = st.texPageX ∧ bits g 4 1 = st.texPageY ∧ bits g 5 2 = st.semiMode ∧ bits g 7 2 = st.texDepth ∧
    bit g 9 = st.dither ∧ bit g 10 = st.drawToDisplay ∧ bit g 11 = st.setMask ∧ bit g 12 = st.checkMask ∧
    (st.vInterlace = false → bit g 13 = true) ∧ (st.vInterlace = true → bit g 13 = free) ∧ bit g 14 = false ∧
    bit g 15 = st.texDisable ∧ bit g 16 = st.hres2 ∧ bits g 17 2 = st.hres1 ∧ bit g 19 = st.vres ∧
    bit g 20 = st.videoMode ∧ bit g 21 = st.depth24 ∧ bit g 22 = st.vInterlace ∧ bit g 23 = st.displayDisabled ∧
    bit g 24 = st.irq ∧
    (st.dmaDir = 0#2 → bit g 25 = false) ∧ (st.dmaDir = 1#2 → bit g 25 = true) ∧
    (st.dmaDir = 2#2 → bit g 25 = st.readyDma) ∧ (st.dmaDir = 3#2 → bit g 25 = st.readySend) ∧
    bit g 26 = st.readyCmd ∧ bit g 27 = st.readySend ∧ bit g 28 = st.readyDma ∧ bits g 29 2 = st.dmaDir ∧
    bit g 31 = odd

/-- Packing what was unpacked gives the word back on the stored fields, and the whole word when its computed bits
have the values they are computed to (R27, which the spec derives). The mask covers every stored field of R25; the one
R27 prints leaves out bit 29, the low bit of `dmaDir`. -/
def Obligations.PackUnpack : Prop :=
  ∀ (x : Word) (free : Bool),
    let y := packStatus (unpackStatus x) (unpackOddField x) free
    y &&& 0xFDFF9FFF#32 = x &&& 0xFDFF9FFF#32 ∧
    (bit x 13 = (if bit x 22 then free else true) → bit x 14 = false →
      bit x 25 = (if bits x 29 2 = 0#2 then false else if bits x 29 2 = 1#2 then true
        else if bits x 29 2 = 2#2 then bit x 28 else bit x 27) → y = x)

/-- Power-on: every register at the value of R582's table, GPUSTAT reading 0x14802000 and the outputs at rest. The
fields the spec does not give the machine (events, outputs, main memory, draws) are the model's choice, logs 3, 4, 7,
8, and no part of this statement. -/
def Obligations.PowerOn : Prop :=
  let s := State.reset
  gpustat s = 0x14802000#32 ∧ s.dec = .idle ∧ s.queue = [] ∧ s.xferIn = none ∧ s.xferOut = none ∧ s.gpuread = 0#32 ∧
  s.halted = none ∧ s.st = unpackStatus 0x14802000#32 ∧
  s.env.areaLeft = 0#10 ∧ s.env.areaTop = 0#9 ∧ s.env.areaRight = 0#10 ∧ s.env.areaBottom = 0#9 ∧
  s.env.offX = 0#11 ∧ s.env.offY = 0#11 ∧ s.env.twRaw = 0#20 ∧ s.env.preMaskX = 0xFF#8 ∧ s.env.preMaskY = 0xFF#8 ∧
  s.env.postMaskX = 0#8 ∧ s.env.postMaskY = 0#8 ∧ s.env.flipX = false ∧ s.env.flipY = false ∧
  s.disp = ⟨0#10, 0#9, 0x200#12, 0xC00#12, 0x10#10, 0x100#10⟩ ∧ s.tim = ⟨0, 0, false⟩ ∧
  irq1 s = false ∧ dotDiv s.st = 10 ∧ hblank s = true ∧ vblank s = true ∧ hresPixels s.st = 256 ∧
  vresLines s.st = 240

/-! ## GP0 commands without operands and the drawing environment -/

/-- NOP and CLRCACHE do nothing, IRQ sets the IRQ1 flag and nothing else (R210, R211, R212). -/
def Obligations.NoOperandCommands : Prop :=
  ∀ s : State, exec .nop s = .next s ∧ exec .clrCache s = .next s ∧
    exec .irq s = .next { s with st := { s.st with irq := true } }

/-- DRAWMODE: the seven Status fields and the two flip flags from their bits, nothing else; GPUSTAT bits 10:0 and 15
are the word's bits 10:0 and 11 (R462). -/
def Obligations.DrawModeResult : Prop :=
  ∀ (w : Word) (s : State), opcodeOf w = 0xE1#8 →
    ∃ o, decode .gp0 [w] = .ok (.drawMode o, []) ∧
      ∃ t, exec (.drawMode o) s = .next t ∧
        t = { s with
          st := { s.st with
            texPageX := bits w 0 4, texPageY := bits w 4 1, semiMode := bits w 5 2, texDepth := bits w 7 2,
            dither := bit w 9, drawToDisplay := bit w 10, texDisable := bit w 11 }
          env := { s.env with flipX := bit w 12, flipY := bit w 13 } } ∧
        bits (gpustat t) 0 11 = bits w 0 11 ∧ bit (gpustat t) 15 = bit w 11

/-- TEXWIN: the raw fields and the four window masks, nothing else; `~` is on integers and the low 8 bits of a
pre-mask are kept, which are all the sampler uses (R465). -/
def Obligations.TexWinResult : Prop :=
  ∀ (w : Word) (s : State), opcodeOf w = 0xE2#8 →
    ∃ o, decode .gp0 [w] = .ok (.texWin o, []) ∧
      exec (.texWin o) s = .next { s with
        env := { s.env with
          twRaw := bits w 0 20
          preMaskX := BitVec.ofInt 8 (-((bits w 0 5).toNat * 8 : Int) - 1)
          preMaskY := BitVec.ofInt 8 (-((bits w 5 5).toNat * 8 : Int) - 1)
          postMaskX := BitVec.ofNat 8 ((bits w 10 5 &&& bits w 0 5).toNat * 8)
          postMaskY := BitVec.ofNat 8 ((bits w 15 5 &&& bits w 5 5).toNat * 8) } }

/-- AREA_TL and AREA_BR: two coordinates each, nothing else; right and bottom are exclusive coordinates, so no column
above 1022 and no row above 510 is in the area, and none at all when right is not above left or bottom not above top
(R466, R467). -/
def Obligations.DrawingAreaResult : Prop :=
  ∀ (w : Word) (s : State),
    (opcodeOf w = 0xE3#8 →
      ∃ o, decode .gp0 [w] = .ok (.areaTL o, []) ∧
        ∃ t, exec (.areaTL o) s = .next t ∧
          t = { s with env := { s.env with areaLeft := bits w 0 10, areaTop := bits w 10 9 } } ∧
          ∀ x y : Int, inArea t.env x y = true → (bits w 0 10).toNat ≤ x ∧ (bits w 10 9).toNat ≤ y) ∧
    (opcodeOf w = 0xE4#8 →
      ∃ o, decode .gp0 [w] = .ok (.areaBR o, []) ∧
        ∃ t, exec (.areaBR o) s = .next t ∧
          t = { s with env := { s.env with areaRight := bits w 0 10, areaBottom := bits w 10 9 } } ∧
          (∀ x y : Int, inArea t.env x y = true →
            x < (bits w 0 10).toNat ∧ y < (bits w 10 9).toNat ∧ x ≤ 1022 ∧ y ≤ 510) ∧
          ((bits w 0 10).toNat ≤ s.env.areaLeft.toNat ∨ (bits w 10 9).toNat ≤ s.env.areaTop.toNat →
            ∀ x y : Int, inArea t.env x y = false))

/-- OFFSET and MASKSET: their two fields each, nothing else (R468, R470). -/
def Obligations.OffsetAndMaskResult : Prop :=
  ∀ (w : Word) (s : State),
    (opcodeOf w = 0xE5#8 →
      ∃ o, decode .gp0 [w] = .ok (.offset o, []) ∧
        ∃ t, exec (.offset o) s = .next t ∧
          t = { s with env := { s.env with offX := bits w 0 11, offY := bits w 11 11 } } ∧
          -1024 ≤ t.env.offX.toInt ∧ t.env.offX.toInt ≤ 1023 ∧ -1024 ≤ t.env.offY.toInt ∧ t.env.offY.toInt ≤ 1023) ∧
    (opcodeOf w = 0xE6#8 →
      ∃ o, decode .gp0 [w] = .ok (.maskSet o, []) ∧
        exec (.maskSet o) s = .next { s with st := { s.st with setMask := bit w 0, checkMask := bit w 1 } })

/-! ## GP1 control commands -/

/-- G1_RESET: every field it names at its reset value; VRAM, the decoder, the CPU to VRAM cursor, the latch and the
counters kept; GPUSTAT reads 0x14802000 with the field flag in bit 31 (R482). That a cancelled readback is drained by
nobody is log 9. -/
def Obligations.ResetResult : Prop :=
  ∀ s : State, ∃ t, exec .g1Reset s = .next t ∧
    t = { s with
      queue := []
      st := ⟨0, 0, 0, 0, false, false, false, false, false, false, 0, false, false, false, false, true, false, true,
        false, true, 0⟩
      env := ⟨0, 0, 0, 0, 0, 0, 0, 0xFF, 0xFF, 0, 0, false, false⟩
      disp := ⟨0, 0, 0x200, 0x200 + 0xA00, 0x10, 0x10 + 0xF0⟩
      xferOut := none
      outByCpu := false } ∧
    gpustat t = (if s.tim.oddField then 0x94802000#32 else 0x14802000#32)

/-- The GP1 commands 01 to 07: one register each, nothing else (R483, R484, R486, R488, R489, R490, R491); the IRQ1
output falls with its flag, and a range whose first end lies above its second is accepted and blanks always. -/
def Obligations.ControlRegisters : Prop :=
  ∀ (w : Word) (s : State),
    exec .g1ClrQ s = .next { s with queue := [] } ∧
    (∃ t, exec .g1AckIrq s = .next t ∧ t = { s with st := { s.st with irq := false } } ∧ irq1 t = false) ∧
    (opcodeOf w = 0x03#8 →
      ∃ o, decode .gp1 [w] = .ok (.g1DispEn o, []) ∧
        exec (.g1DispEn o) s = .next { s with st := { s.st with displayDisabled := bit w 0 } }) ∧
    (opcodeOf w = 0x04#8 →
      ∃ o, decode .gp1 [w] = .ok (.g1DmaDir o, []) ∧
        exec (.g1DmaDir o) s = .next { s with st := { s.st with dmaDir := bits w 0 2 } }) ∧
    (opcodeOf w = 0x05#8 →
      ∃ o, decode .gp1 [w] = .ok (.g1DispStart o, []) ∧
        exec (.g1DispStart o) s = .next { s with disp := { s.disp with startX := bits w 0 10, startY := bits w 10 9 } }) ∧
    (opcodeOf w = 0x06#8 →
      ∃ o, decode .gp1 [w] = .ok (.g1HRange o, []) ∧
        ∃ t, exec (.g1HRange o) s = .next t ∧
          t = { s with disp := { s.disp with x1 := bits w 0 12, x2 := bits w 12 12 } } ∧
          ((bits w 0 12).toNat > (bits w 12 12).toNat → hblank t = true)) ∧
    (opcodeOf w = 0x07#8 →
      ∃ o, decode .gp1 [w] = .ok (.g1VRange o, []) ∧
        ∃ t, exec (.g1VRange o) s = .next t ∧
          t = { s with disp := { s.disp with y1 := bits w 0 10, y2 := bits w 10 10 } } ∧
          ((bits w 0 10).toNat > (bits w 10 10).toNat → vblank t = true))

/-- G1_DISPMODE: without the reverse flag the six mode fields are replaced and GPUSTAT bits 22:16 are `p[5:0]` and
`p[6]` in R492's order, and the outputs and constants that depend on them follow (R492, R494, R512, R522); with it the
command raises before any field is written (R493). The opcode recorded beside the reverse flag is log 25. -/
def Obligations.DisplayModeResult : Prop :=
  ∀ (w : Word) (s : State), opcodeOf w = 0x08#8 →
    ∃ o, decode .gp1 [w] = .ok (.g1DispMode o, []) ∧
      (bit w 7 = true →
        exec (.g1DispMode o) s = .next { s with halted := some (.unsupportedFeature .reverseFlag 0x08#8) }) ∧
      (bit w 7 = false →
        ∃ t, exec (.g1DispMode o) s = .next t ∧
          t = { s with
            st := { s.st with
              hres1 := bits w 0 2, vres := bit w 2, videoMode := bit w 3, depth24 := bit w 4,
              vInterlace := bit w 5, hres2 := bit w 6 } } ∧
          bit (gpustat t) 16 = bit w 6 ∧ bits (gpustat t) 17 6 = bits w 0 6 ∧
          (bit w 5 = false → bit (gpustat t) 13 = true) ∧
          (hresPixels t.st = if bit w 6 then 368 else [256, 320, 512, 640].getD (bits w 0 2).toNat 0) ∧
          (vresLines t.st = if bit w 2 && bit w 5 then 480 else 240) ∧
          (dotDiv t.st = if bit w 6 then 7 else [10, 8, 5, 4].getD (bits w 0 2).toNat 0) ∧
          (hTiming t.st.videoMode = if bit w 3 then 3406 else 3413) ∧
          (vTiming t.st.videoMode = if bit w 3 then 314 else 263))

/-- G1_GETINFO: the latch gets the reply of the index, or keeps its value where there is none; nothing else changes,
and the next read returns the latch unless a readback is active (R496). -/
def Obligations.GetInfoResult : Prop :=
  ∀ (w : Word) (s : State), opcodeOf w = 0x10#8 →
    ∃ o, decode .gp1 [w] = .ok (.g1GetInfo o, []) ∧
      ∃ t, exec (.g1GetInfo o) s = .next t ∧
        t = { s with
          gpuread :=
            if bits w 0 4 = 2#4 then BitVec.ofNat 32 s.env.twRaw.toNat
            else if bits w 0 4 = 3#4 then BitVec.ofNat 32 (s.env.areaTop.toNat * 1024 + s.env.areaLeft.toNat)
            else if bits w 0 4 = 4#4 then BitVec.ofNat 32 (s.env.areaBottom.toNat * 1024 + s.env.areaRight.toNat)
            else if bits w 0 4 = 5#4 then BitVec.ofNat 32 (s.env.offY.toNat * 2048 + s.env.offX.toNat)
            else if bits w 0 4 = 7#4 then 2#32
            else if bits w 0 4 = 8#4 then 0#32
            else s.gpuread } ∧
        (s.halted = none → s.xferOut = none → (readData t).outputs = .readData t.gpuread :: t.outputs)

/-- In a block at rest G1_CLRQ changes nothing, since the queue is empty between events (R483; R206, which
the spec derives). -/
def Obligations.ClearQueueFindsNothing : Prop :=
  ∀ s : State, AtRest s → exec .g1ClrQ s = .next s

/-! ## Display timing -/

/-- A tick: the drain, then the accumulator, the line, the frame and the field flag as R511 says, one pulse, one
sample, and nothing else; a halted block has no step (R511, R514 to R516, R520, R522). A tick of more than 2167 cycles
is outside the spec (R514, I12): how the model refuses it is log 13. -/
def Obligations.TickAdvances : Prop :=
  NoStepWhenHalted ∧
  ∀ (s : State) (c : Nat) (rest : List Event), s.halted = none → s.events = .tick c :: rest →
    step s = andThen (drain { s with events := rest }) fun u =>
      let H := if u.st.videoMode then 3406 else 3413
      let V := if u.st.videoMode then 314 else 263
      let vc := u.tim.videoCycles + c * 11 / 7
      let line : Bool := decide (vc ≥ H)
      let frame : Bool := line && decide (u.tim.scanline + 1 ≥ V)
      let t : Timing :=
        ⟨if line then vc - H else vc,
         if frame then 0 else if line then u.tim.scanline + 1 else u.tim.scanline,
         if frame && u.st.vInterlace && u.st.vres then !u.tim.oddField else u.tim.oddField⟩
      let div := if u.st.hres2 then 7 else [10, 8, 5, 4].getD u.st.hres1.toNat 0
      if c * 11 / 7 < 3406 then
        .next { u with
          tim := t
          outputs :=
            .sample div (decide (t.videoCycles < u.disp.x1.toNat ∨ t.videoCycles > u.disp.x2.toNat))
              (decide (t.scanline < u.disp.y1.toNat ∨ t.scanline > u.disp.y2.toNat)) :: .vblankPulse :: u.outputs }
      else .refused (.tickTooLong c)

/-! ## Fill and transfers -/

/-- FILL inside the grid: every pixel of the block gets the colour with mask bit 0 in both formats, whatever the mask
settings; every other pixel and all other state stay (R432, R433). -/
def Obligations.FillPaints : Prop :=
  ∀ (s : State) (o : Fill), s.halted = none → InGrid o.pos o.size →
    ∃ t, exec (.fill o) s = .next t ∧ t = { s with vram := t.vram } ∧
      ∀ x y : Nat, x < 1024 → y < 512 →
        px t x y =
          if InBlock o.pos.x.toNat o.pos.y.toNat o.size.w.toNat o.size.h.toNat x y then
            ⟨⟨false, o.c.r, o.c.g, o.c.b⟩, narrow ⟨false, o.c.r, o.c.g, o.c.b⟩⟩
          else px s x y

/-- FILL that leaves the grid: the fault names the first pixel outside it in row order, the pixels before it are
filled, the others keep their values (R430, R432, R543). -/
def Obligations.FillFaults : Prop :=
  ∀ (s : State) (o : Fill), s.halted = none → 0 < o.size.w.toNat → 0 < o.size.h.toNat → ¬ InGrid o.pos o.size →
    let x0 := o.pos.x.toNat
    let y0 := o.pos.y.toNat
    let bad : Nat × Nat :=
      if 512 ≤ y0 then (x0, y0) else if 1024 < x0 + o.size.w.toNat then (max x0 1024, y0) else (x0, 512)
    ∃ t, exec (.fill o) s = .next t ∧
      t = { s with vram := t.vram, halted := some (.vramAddressOutOfRange bad.1 bad.2) } ∧
      ∀ x y : Nat, x < 1024 → y < 512 →
        px t x y =
          if InBlock x0 y0 o.size.w.toNat o.size.h.toNat x y ∧ (y < bad.2 ∨ y = bad.2 ∧ x < bad.1) then
            ⟨⟨false, o.c.r, o.c.g, o.c.b⟩, narrow ⟨false, o.c.r, o.c.g, o.c.b⟩⟩
          else px s x y

/-- COPY_VV, the rectangles overlapping or not: pixel by pixel in row order, each source pixel read just before its
destination is written; where a rectangle leaves the grid the fault names the first source or destination pixel outside
it, the pixels before it have been moved, and no other state has changed (R430, R435, R436, R437, R454, R543). -/
def Obligations.CopyInRowOrder : Prop :=
  ∀ (s : State) (o : CopyVV), s.halted = none → o.size.nonzero = true →
    (InGrid o.src o.size → InGrid o.dst o.size →
      exec (.copyVV o) s = .next (copied o s (o.size.w.toNat * o.size.h.toNat))) ∧
    ∀ n, n < o.size.w.toNat * o.size.h.toNat → (∀ m, m < n → OnGrid (copySrc o m) ∧ OnGrid (copyDst o m)) →
      (¬ OnGrid (copySrc o n) →
        exec (.copyVV o) s = .next { copied o s n with halted := offGrid (copySrc o n) }) ∧
      (OnGrid (copySrc o n) → ¬ OnGrid (copyDst o n) →
        exec (.copyVV o) s = .next { copied o s n with halted := offGrid (copyDst o n) })

/-- COPY_VV between two rectangles of the grid that do not meet: each destination pixel takes its source pixel with
the mask bit forced by `setMask`, unless it is protected; every other pixel and all other state stay (R435, R436). -/
def Obligations.CopyDisjoint : Prop :=
  ∀ (s : State) (o : CopyVV), s.halted = none → o.size.nonzero = true → InGrid o.src o.size → InGrid o.dst o.size →
    (o.src.x.toNat + o.size.w.toNat ≤ o.dst.x.toNat ∨ o.dst.x.toNat + o.size.w.toNat ≤ o.src.x.toNat ∨
      o.src.y.toNat + o.size.h.toNat ≤ o.dst.y.toNat ∨ o.dst.y.toNat + o.size.h.toNat ≤ o.src.y.toNat) →
    ∃ t, exec (.copyVV o) s = .next t ∧ t = { s with vram := t.vram } ∧
      ∀ x y : Nat, x < 1024 → y < 512 →
        px t x y =
          if InBlock o.dst.x.toNat o.dst.y.toNat o.size.w.toNat o.size.h.toNat x y ∧
              ¬ (s.st.checkMask ∧ (px s x y).c24.m) then
            let c := (px s (x - o.dst.x.toNat + o.src.x.toNat) (y - o.dst.y.toNat + o.src.y.toNat)).c24
            ⟨⟨c.m || s.st.setMask, c.r, c.g, c.b⟩, narrow ⟨c.m || s.st.setMask, c.r, c.g, c.b⟩⟩
          else px s x y

/-- The headers of the two copies between CPU and VRAM set their cursor at the first pixel, the readback also its
ready bit, and touch no pixel (R440, R446). That a new readback is drained by nobody yet is log 9. -/
def Obligations.TransferHeaders : Prop :=
  ∀ (s : State) (o : CopyXfer), o.size.nonzero = true →
    exec (.copyCV o) s = .next { s with xferIn := some ⟨o.pos.x, o.pos.y, o.size.w, o.size.h, 0⟩ } ∧
    exec (.copyVC o) s = .next { s with
      xferOut := some ⟨o.pos.x, o.pos.y, o.size.w, o.size.h, 0⟩
      st := { s.st with readySend := true }
      outByCpu := false }

/-- A data word of a copy: its two pixels go to the next two places in row order, or one when only one is left, tested
and masked by the settings; the cursor moves on and is gone after the last pixel; nothing else changes (R441, R442,
R164). A place outside the grid raises the fault with its location: at the first the word stores nothing, at the second
its first pixel is kept; the cursor has passed the place (R430, R543). -/
def Obligations.DataWordStores : Prop :=
  ∀ (s : State) (t : Xfer) (d : Word), s.halted = none → s.xferIn = some t → t.n < t.w.toNat * t.h.toNat →
    (PairOnGrid t →
      ∃ u, runJob (.data d) s = .next u ∧
        u = { s with
          vram := u.vram
          xferIn := if t.n + 2 ≥ t.w.toNat * t.h.toNat then none else some { t with n := t.n + 2 } } ∧
        ∀ x y : Nat, x < 1024 → y < 512 →
          px u x y =
            if (x, y) = xferAt t t.n then stored s.st (bits d 0 16) (px s x y)
            else if t.n + 1 < t.w.toNat * t.h.toNat ∧ (x, y) = xferAt t (t.n + 1) then
              stored s.st (bits d 16 16) (px s x y)
            else px s x y) ∧
    (¬ OnGrid (xferAt t t.n) →
      runJob (.data d) s =
        .next { s with xferIn := some { t with n := t.n + 1 }, halted := offGrid (xferAt t t.n) }) ∧
    (OnGrid (xferAt t t.n) → t.n + 1 < t.w.toNat * t.h.toNat → ¬ OnGrid (xferAt t (t.n + 1)) →
      ∃ u, runJob (.data d) s = .next u ∧
        u = { s with
          vram := u.vram
          xferIn := some { t with n := t.n + 2 }
          halted := offGrid (xferAt t (t.n + 1)) } ∧
        ∀ x y : Nat, x < 1024 → y < 512 →
          px u x y = if (x, y) = xferAt t t.n then stored s.st (bits d 0 16) (px s x y) else px s x y)

/-- The round trip: for every rectangle inside VRAM and every data words, with no mask bit forced and no pixel of the
rectangle protected, a CPU to VRAM copy followed by a VRAM to CPU copy of the same rectangle reads the same words back (R449, which
the spec derives). -/
def Obligations.RoundTrip : Prop :=
  ∀ (s : State) (o : CopyXfer) (data : List Word),
    AtRest s → s.dec = .idle → s.st.setMask = false → o.size.nonzero = true → InGrid o.pos o.size →
    (s.st.checkMask = true → ∀ x y : Nat,
      InBlock o.pos.x.toNat o.pos.y.toNat o.size.w.toNat o.size.h.toNat x y → (px s x y).p15.getLsbD 15 = false) →
    data.length = dataWords o.size →
    ∃ t, writeAll (encode (.copyCV o) ++ data ++ encode (.copyVC o)) s = .next t ∧
      t.halted = none ∧
      (readData^[dataWords o.size] t).halted = none ∧
      (readData^[dataWords o.size] t).outputs = ((readBack o.size data).map .readData).reverse ++ s.outputs

/-! ## Rectangles -/

/-- The 16 untextured rectangle commands: every pixel of the block inside the drawing area is drawn as the pixel
pipeline says, no other changes, nor any other state (R332, R338, R339, R340, R400; opcode bit 0 is ignored). -/
def Obligations.UntexturedRectangles : Prop :=
  ∀ (s : State), s.halted = none →
    (∀ k ∈ [(Instr.rectV, false), (.rectVAt61, false), (.rectVS, true), (.rectVSAt63, true)], ∀ o : RectV,
      ∃ t, exec (k.1 o) s = .next t ∧ RectDrawn s t o.pos o.size.w.toNat o.size.h.toNat o.c k.2) ∧
    (∀ k ∈ [(Instr.rect1, 1, false), (.rect1At69, 1, false), (.rect1S, 1, true), (.rect1SAt6b, 1, true),
        (.rect8, 8, false), (.rect8At71, 8, false), (.rect8S, 8, true), (.rect8SAt73, 8, true),
        (.rect16, 16, false), (.rect16At79, 16, false), (.rect16S, 16, true), (.rect16SAt7b, 16, true)],
      ∀ o : RectS, ∃ t, exec (k.1 o) s = .next t ∧ RectDrawn s t o.pos k.2.1 k.2.1 o.c k.2.2)

/-- The 16 textured rectangle commands: one pixel step after the other in row order over the clipped block, none after a
step that raised a fault, with the coordinates counted from the unclipped corner and flipped by the flags; with a
texture inside the grid they run to their end without a fault (R334, R336, R337, R339, R342, R390, R543). -/
def Obligations.TexturedRectangles : Prop :=
  ∀ (s : State), s.halted = none →
    (∀ k ∈ [(Instr.rectTV, false, false), (.rectTVR, false, true), (.rectTVS, true, false),
        (.rectTVSR, true, true)], ∀ o : RectTV,
      let r := rectScan s o.pos o.t (rectAttr s o.clut k.2.2) o.size.w.toNat o.size.h.toNat o.c k.2.1
      exec (k.1 o) s = .next r ∧ ((rectAttr s o.clut k.2.2).fits → r.halted = none)) ∧
    (∀ k ∈ [(Instr.rectT1, 1, false, false), (.rectT1R, 1, false, true), (.rectT1S, 1, true, false),
        (.rectT1SR, 1, true, true), (.rectT8, 8, false, false), (.rectT8R, 8, false, true),
        (.rectT8S, 8, true, false), (.rectT8SR, 8, true, true), (.rectT16, 16, false, false),
        (.rectT16R, 16, false, true), (.rectT16S, 16, true, false), (.rectT16SR, 16, true, true)],
      ∀ o : RectTS,
        let r := rectScan s o.pos o.t (rectAttr s o.clut k.2.2.2) k.2.1 k.2.1 o.c k.2.2.1
        exec (k.1 o) s = .next r ∧ ((rectAttr s o.clut k.2.2.2).fits → r.halted = none))

/-- The pixel pipeline on one textured pixel, by the four 1×1 commands: outside the drawing area or over a protected
pixel nothing happens; a texel outside the grid raises the fault with its location; otherwise the pixel is as R400 to
R408 say of the texel that R381 to R389 find, and no other pixel changes. -/
def Obligations.TexturedPixel : Prop :=
  ∀ (s : State), s.halted = none →
    ∀ k ∈ [(Instr.rectT1, false, false), (.rectT1R, false, true), (.rectT1S, true, false), (.rectT1SR, true, true)],
    ∀ o : RectTS,
      let x := screenX s o.pos
      let y := screenY s o.pos
      let u := windowed s.env.preMaskX s.env.postMaskX o.t.u.toNat
      let v := windowed s.env.preMaskY s.env.postMaskY o.t.v.toNat
      let old := px s x.toNat y.toNat
      (¬ InArea s.env x y → exec (k.1 o) s = .next s) ∧
      (InArea s.env x y → s.st.checkMask = true → old.c24.m = true → exec (k.1 o) s = .next s) ∧
      (InArea s.env x y → ¬ (s.st.checkMask = true ∧ old.c24.m = true) →
        (∀ e, texel s (rectAttr s o.clut k.2.2) u v = .error e →
          exec (k.1 o) s = .next { s with halted := some (.vramAddressOutOfRange e.1 e.2) }) ∧
        (∀ p, texel s (rectAttr s o.clut k.2.2) u v = .ok p →
          ∃ t, exec (k.1 o) s = .next t ∧ t = { s with vram := t.vram } ∧
            px t x.toNat y.toNat = textured s.st k.2.1 k.2.2 o.c p old ∧
            ∀ x' y' : Nat, x' < 1024 → y' < 512 → ((x' : Int), (y' : Int)) ≠ (x, y) → px t x' y' = px s x' y'))

/-! ## Polygons -/

/-- The 16 untextured polygon commands: every pixel is as the coverage rule, the interpolation and the pixel pipeline
say, the second triangle of a 4-point polygon over the first; nothing else changes (R231 to R247, R400). -/
def Obligations.UntexturedPolygons : Prop :=
  ∀ (s : State), s.halted = none →
    (∀ k ∈ [(Instr.polyF3, false), (.polyF3At21, false), (.polyF3S, true), (.polyF3SAt23, true)], ∀ o : PolyF3,
      ∃ t, exec (k.1 o) s = .next t ∧
        TriDrawn s t (vert s o.v0 0 0 o.c) (vert s o.v1 0 0 o.c) (vert s o.v2 0 0 o.c) false k.2) ∧
    (∀ k ∈ [(Instr.polyG3, false), (.polyG3At31, false), (.polyG3S, true), (.polyG3SAt33, true)], ∀ o : PolyG3,
      ∃ t, exec (k.1 o) s = .next t ∧
        TriDrawn s t (vert s o.v0 0 0 o.c0) (vert s o.v1 0 0 o.c1) (vert s o.v2 0 0 o.c2) true k.2) ∧
    (∀ k ∈ [(Instr.polyF4, false), (.polyF4At29, false), (.polyF4S, true), (.polyF4SAt2b, true)], ∀ o : PolyF4,
      ∃ t, exec (k.1 o) s = .next t ∧
        QuadDrawn s t (vert s o.v0 0 0 o.c) (vert s o.v1 0 0 o.c) (vert s o.v2 0 0 o.c) (vert s o.v3 0 0 o.c)
          false k.2) ∧
    (∀ k ∈ [(Instr.polyG4, false), (.polyG4At39, false), (.polyG4S, true), (.polyG4SAt3b, true)], ∀ o : PolyG4,
      ∃ t, exec (k.1 o) s = .next t ∧
        QuadDrawn s t (vert s o.v0 0 0 o.c0) (vert s o.v1 0 0 o.c1) (vert s o.v2 0 0 o.c2) (vert s o.v3 0 0 o.c3)
          true k.2)

/-- The 16 textured polygon commands: each triangle is one pixel step after the other in row order over the covered
pixels, none after a step that raised a fault; with a texture inside the grid they run to their end without a fault
(R231, R235, R243 to R248, R390, R543). -/
def Obligations.TexturedPolygons : Prop :=
  ∀ (s : State), s.halted = none →
    (∀ k ∈ [(Instr.polyFT3, false, false), (.polyFT3R, false, true), (.polyFT3S, true, false),
        (.polyFT3SR, true, true)], ∀ o : PolyFT3,
      let p0 := vert s o.v0 o.t0.u.toNat o.t0.v.toNat o.c
      let p1 := vert s o.v1 o.t1.u.toNat o.t1.v.toNat o.c
      let p2 := vert s o.v2 o.t2.u.toNat o.t2.v.toNat o.c
      let r := triScan s p0 p1 p2 false (polyAttr o.clut o.page k.2.2) k.2.1 s
      exec (k.1 o) s = .next r ∧ ((polyAttr o.clut o.page k.2.2).fits → r.halted = none)) ∧
    (∀ k ∈ [(Instr.polyGT3, false, false), (.polyGT3R, false, true), (.polyGT3S, true, false),
        (.polyGT3SR, true, true)], ∀ o : PolyGT3,
      let p0 := vert s o.v0 o.t0.u.toNat o.t0.v.toNat o.c0
      let p1 := vert s o.v1 o.t1.u.toNat o.t1.v.toNat o.c1
      let p2 := vert s o.v2 o.t2.u.toNat o.t2.v.toNat o.c2
      let r := triScan s p0 p1 p2 true (polyAttr o.clut o.page k.2.2) k.2.1 s
      exec (k.1 o) s = .next r ∧ ((polyAttr o.clut o.page k.2.2).fits → r.halted = none)) ∧
    (∀ k ∈ [(Instr.polyFT4, false, false), (.polyFT4R, false, true), (.polyFT4S, true, false),
        (.polyFT4SR, true, true)], ∀ o : PolyFT4,
      let p0 := vert s o.v0 o.t0.u.toNat o.t0.v.toNat o.c
      let p1 := vert s o.v1 o.t1.u.toNat o.t1.v.toNat o.c
      let p2 := vert s o.v2 o.t2.u.toNat o.t2.v.toNat o.c
      let p3 := vert s o.v3 o.t3.u.toNat o.t3.v.toNat o.c
      let a := polyAttr o.clut o.page k.2.2
      let r := triScan s p1 p2 p3 false a k.2.1 (triScan s p0 p1 p2 false a k.2.1 s)
      exec (k.1 o) s = .next r ∧ ((polyAttr o.clut o.page k.2.2).fits → r.halted = none)) ∧
    (∀ k ∈ [(Instr.polyGT4, false, false), (.polyGT4R, false, true), (.polyGT4S, true, false),
        (.polyGT4SR, true, true)], ∀ o : PolyGT4,
      let p0 := vert s o.v0 o.t0.u.toNat o.t0.v.toNat o.c0
      let p1 := vert s o.v1 o.t1.u.toNat o.t1.v.toNat o.c1
      let p2 := vert s o.v2 o.t2.u.toNat o.t2.v.toNat o.c2
      let p3 := vert s o.v3 o.t3.u.toNat o.t3.v.toNat o.c3
      let a := polyAttr o.clut o.page k.2.2
      let r := triScan s p1 p2 p3 true a k.2.1 (triScan s p0 p1 p2 true a k.2.1 s)
      exec (k.1 o) s = .next r ∧ ((polyAttr o.clut o.page k.2.2).fits → r.halted = none))

/-- The vertices of a 3-point polygon may be given in any order, with their colours and texture coordinates: the
exchange of the last two and the rotation generate every order, and the whole next state is the same (R283,
which the spec derives). -/
def Obligations.WindingInvariant : Prop :=
  ∀ (s : State),
    (∀ k ∈ [Instr.polyF3, .polyF3At21, .polyF3S, .polyF3SAt23], ∀ o : PolyF3,
      exec (k { o with v1 := o.v2, v2 := o.v1 }) s = exec (k o) s ∧
      exec (k { o with v0 := o.v1, v1 := o.v2, v2 := o.v0 }) s = exec (k o) s) ∧
    (∀ k ∈ [Instr.polyG3, .polyG3At31, .polyG3S, .polyG3SAt33], ∀ o : PolyG3,
      exec (k { o with v1 := o.v2, c1 := o.c2, v2 := o.v1, c2 := o.c1 }) s = exec (k o) s ∧
      exec (k ⟨o.c1, o.v1, o.c2, o.v2, o.c0, o.v0⟩) s = exec (k o) s) ∧
    (∀ k ∈ [Instr.polyFT3, .polyFT3R, .polyFT3S, .polyFT3SR], ∀ o : PolyFT3,
      exec (k { o with v1 := o.v2, t1 := o.t2, v2 := o.v1, t2 := o.t1 }) s = exec (k o) s ∧
      exec (k { o with v0 := o.v1, t0 := o.t1, v1 := o.v2, t1 := o.t2, v2 := o.v0, t2 := o.t0 }) s = exec (k o) s) ∧
    (∀ k ∈ [Instr.polyGT3, .polyGT3R, .polyGT3S, .polyGT3SR], ∀ o : PolyGT3,
      exec (k { o with v1 := o.v2, t1 := o.t2, c1 := o.c2, v2 := o.v1, t2 := o.t1, c2 := o.c1 }) s = exec (k o) s ∧
      exec (k { o with v0 := o.v1, t0 := o.t1, c0 := o.c1, v1 := o.v2, t1 := o.t2, c1 := o.c2, v2 := o.v0, t2 := o.t0,
                       c2 := o.c0 }) s = exec (k o) s)

/-- A 3-point polygon with two equal vertices, and any whose clamped vertices lie on one line, draws nothing
(R238; R282 (a), which the spec derives). -/
def Obligations.ZeroAreaDrawsNothing : Prop :=
  ∀ (s : State),
    let flat (a b c : Vertex) : Prop :=
      a = b ∨ b = c ∨ a = c ∨
        (let p0 := clampVertex s.env (vert s a 0 0 ⟨0, 0, 0⟩)
         let p1 := clampVertex s.env (vert s b 0 0 ⟨0, 0, 0⟩)
         let p2 := clampVertex s.env (vert s c 0 0 ⟨0, 0, 0⟩)
         (p1.x - p0.x) * (p2.y - p0.y) = (p1.y - p0.y) * (p2.x - p0.x))
    (∀ k ∈ [Instr.polyF3, .polyF3At21, .polyF3S, .polyF3SAt23], ∀ o : PolyF3, flat o.v0 o.v1 o.v2 →
      exec (k o) s = .next s) ∧
    (∀ k ∈ [Instr.polyG3, .polyG3At31, .polyG3S, .polyG3SAt33], ∀ o : PolyG3, flat o.v0 o.v1 o.v2 →
      exec (k o) s = .next s) ∧
    (∀ k ∈ [Instr.polyFT3, .polyFT3R, .polyFT3S, .polyFT3SR], ∀ o : PolyFT3, flat o.v0 o.v1 o.v2 →
      exec (k o) s = .next s) ∧
    (∀ k ∈ [Instr.polyGT3, .polyGT3R, .polyGT3S, .polyGT3SR], ∀ o : PolyGT3, flat o.v0 o.v1 o.v2 →
      exec (k o) s = .next s)

/-- Two triangles on opposite sides of a shared edge cover no pixel twice, and every pixel between the ends of that
edge is covered by exactly one of them (R241, R242, R246). -/
def Obligations.SharedEdgeOnce : Prop :=
  ∀ (p0 p1 p2 p3 : PVertex) (a b : Tri) (x y : Int),
    windTri p0 p1 p2 = some a → windTri p1 p2 p3 = some b →
    orient p1 p2 p0.x p0.y * orient p1 p2 p3.x p3.y < 0 →
    ¬ (covers a x y = true ∧ covers b x y = true) ∧
    (orient p1 p2 x y = 0 → (x - p1.x) * (x - p2.x) + (y - p1.y) * (y - p2.y) < 0 →
      covers a x y = true ∨ covers b x y = true)

/-- A covered pixel lies in the triangle's bounding box, its right and bottom sides excluded (R240, R242). -/
def Obligations.CoverageInsideBox : Prop :=
  ∀ (p0 p1 p2 : PVertex) (t : Tri) (x y : Int), windTri p0 p1 p2 = some t → covers t x y = true →
    (triBox t).xs ≤ x ∧ x < (triBox t).xe ∧ (triBox t).ys ≤ y ∧ y < (triBox t).ye

/-- On a covered pixel an interpolated channel is an 8-bit value between the least and the greatest vertex value
(R243, R416). -/
def Obligations.InterpolationInRange : Prop :=
  ∀ (p0 p1 p2 : PVertex) (t : Tri) (x y : Int), windTri p0 p1 p2 = some t → covers t x y = true →
    ∀ a0 a1 a2 : BitVec 8,
      (min a0.toNat (min a1.toNat a2.toNat) : Nat) ≤ interp t a0.toNat a1.toNat a2.toNat x y ∧
      interp t a0.toNat a1.toNat a2.toNat x y ≤ (max a0.toNat (max a1.toNat a2.toNat) : Nat)

/-- The bounding-box rejection can never succeed, since the clamp has confined the vertices: the
spec derives this in R239. -/
def Obligations.BoxNeverRejected : Prop :=
  ∀ (s : State) (p0 p1 p2 : PVertex) (t : Tri), wound s p0 p1 p2 = some t →
    (triBox t).xe - (triBox t).xs ≤ 1024 ∧ (triBox t).ye - (triBox t).ys ≤ 512

/-! ## Lines -/

/-- The 16 single-line commands: every pixel as the span test, the stepping, the colour, the clip and the pixel
pipeline say, nothing else changes (R290 to R303; opcode bits 2 and 0 are ignored). -/
def Obligations.SingleLines : Prop :=
  ∀ (s : State), s.halted = none →
    (∀ k ∈ [(Instr.lineF, false), (.lineFAt41, false), (.lineFS, true), (.lineFSAt43, true), (.lineFAt44, false),
        (.lineFAt45, false), (.lineFSAt46, true), (.lineFSAt47, true)], ∀ o : LineF,
      ∃ t, exec (k.1 o) s = .next t ∧ LineDrawn s t o.a o.b o.c o.c k.2) ∧
    (∀ k ∈ [(Instr.lineG, false), (.lineGAt51, false), (.lineGS, true), (.lineGSAt53, true), (.lineGAt54, false),
        (.lineGAt55, false), (.lineGSAt56, true), (.lineGSAt57, true)], ∀ o : LineG,
      ∃ t, exec (k.1 o) s = .next t ∧ LineDrawn s t o.a o.b o.c0 o.c1 k.2)

/-- The stepping of a line ends at its second vertex (R294). -/
def Obligations.LineEndsAtSecondVertex : Prop :=
  ∀ (s : State) (a b : Vertex) (c0 c1 : Rgb),
    let g := lineGeom s a b c0 c1
    let c := (lineStep g)^[lineL g] (lineStart g)
    (c.x, c.y) = (screenX s b, screenY s b)

/-! ## What every drawing command leaves alone -/

/-- Every drawing command, the fill and the copy inside VRAM answer a next state that differs at most in VRAM and in
`halted`, and no pixel outside the drawing area, the filled block or the destination changes (R248, R304, R341, R432,
R435). -/
def Obligations.DrawingFrame : Prop :=
  (∀ (i : Instr) (s : State), Draws i → ∃ t, exec i s = .next t ∧ OnlyVram s t ∧
    ∀ x y : Nat, x < 1024 → y < 512 → ¬ InArea s.env x y → px t x y = px s x y) ∧
  (∀ (o : Fill) (s : State), ∃ t, exec (.fill o) s = .next t ∧ OnlyVram s t ∧
    ∀ x y : Nat, x < 1024 → y < 512 → ¬ InBlock o.pos.x.toNat o.pos.y.toNat o.size.w.toNat o.size.h.toNat x y →
      px t x y = px s x y) ∧
  (∀ (o : CopyVV) (s : State), ∃ t, exec (.copyVV o) s = .next t ∧ OnlyVram s t ∧
    ∀ x y : Nat, x < 1024 → y < 512 → ¬ InBlock o.dst.x.toNat o.dst.y.toNat o.size.w.toNat o.size.h.toNat x y →
      px t x y = px s x y)

/-- With an empty drawing area, as after a reset, no polygon, line or rectangle draws a pixel or faults (R34, R471;
R282 (d) and (e), which the spec derives). -/
def Obligations.EmptyAreaDrawsNothing : Prop :=
  ∀ (i : Instr) (s : State), Draws i →
    s.env.areaRight.toNat ≤ s.env.areaLeft.toNat ∨ s.env.areaBottom.toNat ≤ s.env.areaTop.toNat →
    exec i s = .next s

/-- A texel whose 15-bit value is 0 leaves the pixel untouched, whatever the base colour, the raw and semi flags and
the mask settings (R403; R393, which the spec derives). -/
def Obligations.TransparentTexelSkipped : Prop :=
  ∀ (s : State) (x y : Nat) (base : Rgb) (r : TexRef) (semi : Bool) (p : Pixel),
    x < 1024 → y < 512 →
    sample s (texelCoord s.env.preMaskX s.env.postMaskX r.u) (texelCoord s.env.preMaskY s.env.postMaskY r.v) r.attr
      = .ok p → p.p15 = 0#16 →
    drawPixel x y base (some r) semi s = s

/-- Neutral grey modulates every texel to itself (R410, which the spec derives). -/
def Obligations.NeutralModulation : Prop := ∀ t : C24, modulate ⟨0x80, 0x80, 0x80⟩ t = t

/-- The two formats: what `widen` makes of each field; `narrow` undoes it, and it undoes `narrow` exactly when the low
three bits of every channel are zero (R95). -/
def Obligations.NarrowWiden : Prop :=
  (∀ p : P15, widen p = ⟨p.getLsbD 15, BitVec.ofNat 8 (p.toNat % 32 * 8), BitVec.ofNat 8 (p.toNat / 32 % 32 * 8),
    BitVec.ofNat 8 (p.toNat / 1024 % 32 * 8)⟩) ∧
  (∀ p : P15, narrow (widen p) = p) ∧
  (∀ c : C24, widen (narrow c) = c ↔ c.r.toNat % 8 = 0 ∧ c.g.toNat % 8 = 0 ∧ c.b.toNat % 8 = 0) ∧
  widen 0#16 = ⟨false, 0, 0, 0⟩ ∧ widen 0x8000#16 = ⟨true, 0, 0, 0⟩

/-- The 4-bit depth never faults, whatever page, CLUT and coordinates a polygon or a rectangle names (R390). -/
def Obligations.FourBitNeverFaults : Prop :=
  ∀ (s : State) (u v : BitVec 8) (c : Clut) (p : Page) (raw : Bool),
    (p.depth = 0#2 → ∃ q, sample s u v (polyTex c p raw) = .ok q) ∧
    (s.st.texDepth = 0#2 → ∃ q, sample s u v (rectTex s c raw) = .ok q)

/-! ## DMA -/

/-- A burst and its words written one by one reach the same state, from a block at rest, whenever the burst raises no
fault (R115); only the record of who feeds a data phase differs, which is the model's own, log 9. -/
def Obligations.BurstEqualsWrites : Prop :=
  ∀ (s t : State) (ws : List Word), AtRest s → ws ≠ [] → dmaBlock ws s = .next t → t.halted = none →
    ∃ u, writeAll ws s = .next u ∧ t = { u with inByCpu := false }

/-- While a CPU-driven copy is in progress the DMA events hold, and the first other event runs (R109). When a copy counts
as the CPU's, and that the held events keep their places, is log 9; that the step answers the state unchanged when every
event is held is log 18. -/
def Obligations.DmaEventsHold : Prop :=
  ∀ (s : State), s.halted = none →
    (∃ rem, s.dec = .dataIn rem ∧ s.inByCpu = true) ∨ (s.xferOut ≠ none ∧ s.outByCpu = true) →
    ((∀ e ∈ s.events, isDma e = true) → step s = .next s) ∧
    (∀ ds e rest, s.events = ds ++ e :: rest → (∀ d ∈ ds, isDma d = true) → isDma e = false →
      step s = runEvent e { s with events := ds ++ rest })

/-- One link of a linked list, when it is not held: the header's count of payload words is fed and drained as a
burst; the all-ones address ends the transfer, any other goes on there (R117, R118). That one step is one link is
log 11; the words at an address that is no multiple of 4, log 26; that they are read as memory stands when the link
runs, log 27; byte order and no wrap, log 8. -/
def Obligations.LinkedListStep : Prop :=
  ∀ (s : State) (a : BitVec 24) (rest : List Event), s.halted = none → s.events = .dmaLinkedList a :: rest →
    dmaHeld s = false →
    let hdr := memRead s.mainMem a.toNat
    let ws := (List.range (hdr.toNat / 2 ^ 24)).map fun i => memRead s.mainMem (a.toNat + 4 * (i + 1))
    (∀ t, dmaBlock ws { s with events := rest } = .next t → t.halted = none →
      (hdr.toNat % 2 ^ 24 = 0xFFFFFF → step s = .next { t with outputs := .dmaDone :: t.outputs }) ∧
      (hdr.toNat % 2 ^ 24 ≠ 0xFFFFFF →
        step s = .next { t with events := .dmaLinkedList (BitVec.ofNat 24 (hdr.toNat % 2 ^ 24)) :: t.events }))

/-- A DMA transfer from the block stores each word it reads at its address: afterwards main memory holds there, in
order, what the reads returned, and no byte elsewhere has changed (R116; the byte order is log 8). -/
def Obligations.DmaReadStores : Prop :=
  ∀ (s : State) (addrs : List Nat), s.halted = none → addrs.Pairwise (fun a b => a + 4 ≤ b ∨ b + 4 ≤ a) →
    let t := dmaBlockRead addrs s
    t.halted = none →
      t.outputs = (addrs.map fun a => .readData (memRead t.mainMem a)).reverse ++ s.outputs ∧
      ∀ j, (∀ a ∈ addrs, j < a ∨ a + 4 ≤ j) → ramByte t.mainMem j = ramByte s.mainMem j

/-! ## Invariants -/

/-- The invariant of the stores and the block at rest hold at power-on (R580; R99 and R206, which the spec
derives). -/
def Obligations.InvariantsAtPowerOn : Prop := StoreInv State.reset ∧ AtRest State.reset

/-- Every step keeps VRAM and main memory canonical and the two pixel formats in agreement, faults included (R96,
R97; R99, which the spec derives). -/
def Obligations.StepKeepsStores : Prop :=
  ∀ s t : State, StoreInv s → step s = .next t → StoreInv t

/-- Every step that raises no fault leaves the block at rest: the queue empty, the decoder and the cursors fitting
together, the ready bits and the counters as their rules say (R22, R38, R446, R448; R206 and R526,
which the spec derives). -/
def Obligations.StepKeepsRest : Prop :=
  ∀ s t : State, AtRest s → step s = .next t → t.halted = none → AtRest t
end

