-- ==== Sys2Proof/Laws/Decode.lean ====
section
/-! SUPPORT. Reading back a field that was put in its place in a word, and each operand word read back from the
encoder's word. -/

namespace Sys2Proof

theorem bits_getLsbD (w : Word) (lo n i : Nat) :
    (bits w lo n).getLsbD i = (decide (i < n) && w.getLsbD (lo + i)) := by
  simp [bits, BitVec.getLsbD_extractLsb']

theorem place_getLsbD {n : Nat} (lo : Nat) (x : BitVec n) (i : Nat) (hi : i < 32) :
    (place lo x).getLsbD i = (decide (lo ≤ i) && x.getLsbD (i - lo)) := by
  simp only [place, BitVec.getLsbD_shiftLeft, BitVec.getLsbD_setWidth]
  by_cases h : lo ≤ i
  · have : i - lo < 32 := by omega
    simp [h, hi, Nat.not_lt.mpr h, this]
  · simp [h, Nat.not_le.mp h]

/-- A field read back from its place. -/
theorem bits_place {n : Nat} (lo : Nat) (x : BitVec n) (h : lo + n ≤ 32) : bits (place lo x) lo n = x := by
  apply BitVec.eq_of_getLsbD_eq
  intro i hi
  rw [bits_getLsbD, place_getLsbD _ _ _ (by omega)]
  simp [hi]

/-- A field reads as zero where another field stands. -/
theorem bits_place_ne {n : Nat} (lo : Nat) (x : BitVec n) (lo' n' : Nat) (h : lo + n ≤ lo' ∨ lo' + n' ≤ lo)
    (h2 : lo' + n' ≤ 32) : bits (place lo x) lo' n' = 0 := by
  apply BitVec.eq_of_getLsbD_eq
  intro i hi
  rw [bits_getLsbD, place_getLsbD _ _ _ (by omega)]
  simp [hi]
  intro h3
  apply BitVec.getLsbD_of_ge
  omega

theorem bits_or (a b : Word) (lo n : Nat) : bits (a ||| b) lo n = bits a lo n ||| bits b lo n := by
  apply BitVec.eq_of_getLsbD_eq
  intro i hi
  rw [BitVec.getLsbD_or, bits_getLsbD, bits_getLsbD, bits_getLsbD, BitVec.getLsbD_or, Bool.and_or_distrib_left]

theorem bits_zero (lo n : Nat) : bits 0#32 lo n = 0#n := by
  apply BitVec.eq_of_getLsbD_eq
  intro i hi
  simp [bits_getLsbD]

theorem bit_or (a b : Word) (i : Nat) : bit (a ||| b) i = (bit a i || bit b i) := by
  simp [bit]

theorem bit_place {n : Nat} (lo : Nat) (x : BitVec n) (i : Nat) (hi : i < 32) :
    bit (place lo x) i = (decide (lo ≤ i) && x.getLsbD (i - lo)) := place_getLsbD lo x i hi

theorem bit_placeBit (i : Nat) (b : Bool) (hi : i < 32) : bit (placeBit i b) i = b := by
  rw [placeBit, bit_place _ _ _ hi]
  cases b <;> simp

theorem bit_placeBit_ne (i j : Nat) (b : Bool) (hj : j < 32) (h : i ≠ j) : bit (placeBit i b) j = false := by
  rw [placeBit, bit_place _ _ _ hj]
  by_cases hl : i ≤ j
  · have : (BitVec.ofBool b).getLsbD (j - i) = false := BitVec.getLsbD_of_ge _ _ (by omega)
    simp [this]
  · simp [hl]

theorem bit_place_ne {n : Nat} (lo : Nat) (x : BitVec n) (j : Nat) (hj : j < 32) (h : j < lo ∨ lo + n ≤ j) :
    bit (place lo x) j = false := by
  rw [bit_place _ _ _ hj]
  by_cases hl : lo ≤ j
  · have : x.getLsbD (j - lo) = false := BitVec.getLsbD_of_ge _ _ (by omega)
    simp [this]
  · simp [hl]

theorem bits_placeBit_ne (i : Nat) (b : Bool) (lo n : Nat) (h : i < lo ∨ lo + n ≤ i) (h2 : lo + n ≤ 32) :
    bits (placeBit i b) lo n = 0 := bits_place_ne i _ lo n (by omega) h2

@[simp] theorem Rgb.ofWord_toWord (op : BitVec 8) (c : Rgb) : Rgb.ofWord (c.toWord op) = c := by
  cases c; simp [Rgb.ofWord, Rgb.toWord, bits_or, bits_place, bits_place_ne]

@[simp] theorem opcodeOf_rgb (op : BitVec 8) (c : Rgb) : opcodeOf (c.toWord op) = op := by
  simp [opcodeOf, Rgb.toWord, bits_or, bits_place, bits_place_ne]

@[simp] theorem Vertex.ofWord_toWord (v : Vertex) : Vertex.ofWord v.toWord = v := by
  cases v; simp [Vertex.ofWord, Vertex.toWord, bits_or, bits_place, bits_place_ne]

@[simp] theorem TexCoord.ofWord_clut (c : Clut) (t : TexCoord) : TexCoord.ofWord (t.toWord c.attr) = t := by
  cases t; simp [TexCoord.ofWord, TexCoord.toWord, Clut.attr, bits_or, bits_place, bits_place_ne]

@[simp] theorem TexCoord.ofWord_page (p : Page) (t : TexCoord) : TexCoord.ofWord (t.toWord p.attr) = t := by
  cases t; simp [TexCoord.ofWord, TexCoord.toWord, Page.attr, bits_or, bits_place, bits_place_ne]

@[simp] theorem TexCoord.ofWord_plain (t : TexCoord) : TexCoord.ofWord (t.toWord 0#32) = t := by
  cases t; simp [TexCoord.ofWord, TexCoord.toWord, bits_or, bits_place, bits_place_ne]

@[simp] theorem Clut.ofWord_toWord (c : Clut) (t : TexCoord) : Clut.ofWord (t.toWord c.attr) = c := by
  cases c; simp [Clut.ofWord, TexCoord.toWord, Clut.attr, bits_or, bits_place, bits_place_ne]

@[simp] theorem Page.ofWord_toWord (p : Page) (t : TexCoord) : Page.ofWord (t.toWord p.attr) = p := by
  cases p; simp [Page.ofWord, TexCoord.toWord, Page.attr, bits_or, bits_place, bits_place_ne]

@[simp] theorem PosXY.ofWord_toWord (p : PosXY) : PosXY.ofWord p.toWord = p := by
  cases p; simp [PosXY.ofWord, PosXY.toWord, bits_or, bits_place, bits_place_ne]

@[simp] theorem SizeWH.ofWord_toWord (z : SizeWH) : SizeWH.ofWord z.toWord = z := by
  cases z; simp [SizeWH.ofWord, SizeWH.toWord, bits_or, bits_place, bits_place_ne]

@[simp] theorem RectSize.ofWord_toWord (z : RectSize) : RectSize.ofWord z.toWord = z := by
  cases z; simp [RectSize.ofWord, RectSize.toWord, bits_or, bits_place, bits_place_ne]

@[simp] theorem opcodeOf_opWord (op : BitVec 8) : opcodeOf (opWord op) = op := by
  simp [opcodeOf, opWord, bits_place]

@[simp] theorem DrawMode.ofWord_toWord (op : BitVec 8) (o : DrawMode) : DrawMode.ofWord (o.toWord op) = o := by
  cases o
  simp [DrawMode.ofWord, DrawMode.toWord, bits_or, bits_place, bits_place_ne, bits_placeBit_ne, bit_or, bit_placeBit,
    bit_placeBit_ne, bit_place_ne]

@[simp] theorem TexWin.ofWord_toWord (op : BitVec 8) (o : TexWin) : TexWin.ofWord (o.toWord op) = o := by
  cases o; simp [TexWin.ofWord, TexWin.toWord, bits_or, bits_place, bits_place_ne]

@[simp] theorem Corner.ofWord_toWord (op : BitVec 8) (o : Corner) : Corner.ofWord (o.toWord op) = o := by
  cases o; simp [Corner.ofWord, Corner.toWord, bits_or, bits_place, bits_place_ne]

@[simp] theorem Offset.ofWord_toWord (op : BitVec 8) (o : Offset) : Offset.ofWord (o.toWord op) = o := by
  cases o; simp [Offset.ofWord, Offset.toWord, bits_or, bits_place, bits_place_ne]

@[simp] theorem MaskSet.ofWord_toWord (op : BitVec 8) (o : MaskSet) : MaskSet.ofWord (o.toWord op) = o := by
  cases o; simp [MaskSet.ofWord, MaskSet.toWord, bit_or, bit_placeBit, bit_placeBit_ne, bit_place_ne]

@[simp] theorem DispEn.ofWord_toWord (op : BitVec 8) (o : DispEn) : DispEn.ofWord (o.toWord op) = o := by
  cases o; simp [DispEn.ofWord, DispEn.toWord, bit_or, bit_placeBit, bit_place_ne]

@[simp] theorem DmaDir.ofWord_toWord (op : BitVec 8) (o : DmaDir) : DmaDir.ofWord (o.toWord op) = o := by
  cases o; simp [DmaDir.ofWord, DmaDir.toWord, bits_or, bits_place, bits_place_ne]

@[simp] theorem DispStart.ofWord_toWord (op : BitVec 8) (o : DispStart) : DispStart.ofWord (o.toWord op) = o := by
  cases o; simp [DispStart.ofWord, DispStart.toWord, bits_or, bits_place, bits_place_ne]

@[simp] theorem HRange.ofWord_toWord (op : BitVec 8) (o : HRange) : HRange.ofWord (o.toWord op) = o := by
  cases o; simp [HRange.ofWord, HRange.toWord, bits_or, bits_place, bits_place_ne]

@[simp] theorem VRange.ofWord_toWord (op : BitVec 8) (o : VRange) : VRange.ofWord (o.toWord op) = o := by
  cases o; simp [VRange.ofWord, VRange.toWord, bits_or, bits_place, bits_place_ne]

@[simp] theorem DispMode.ofWord_toWord (op : BitVec 8) (o : DispMode) : DispMode.ofWord (o.toWord op) = o := by
  cases o
  simp [DispMode.ofWord, DispMode.toWord, bits_or, bits_place, bits_place_ne, bits_placeBit_ne, bit_or, bit_placeBit,
    bit_placeBit_ne, bit_place_ne]

@[simp] theorem GetInfo.ofWord_toWord (op : BitVec 8) (o : GetInfo) : GetInfo.ofWord (o.toWord op) = o := by
  cases o; simp [GetInfo.ofWord, GetInfo.toWord, bits_or, bits_place, bits_place_ne]

end Sys2Proof
end

