-- ==== Sys2Proof/Laws/State.lean ====
section
/-! SUPPORT. One lemma per field per update of the shared operations, true by unfolding one record update. -/

namespace Sys2Proof.Machine

@[simp] theorem raise_vram (f : Fault) (s : State) : (raise f s).vram = s.vram := rfl
@[simp] theorem raise_st (f : Fault) (s : State) : (raise f s).st = s.st := rfl
@[simp] theorem raise_env (f : Fault) (s : State) : (raise f s).env = s.env := rfl
@[simp] theorem raise_disp (f : Fault) (s : State) : (raise f s).disp = s.disp := rfl
@[simp] theorem raise_dec (f : Fault) (s : State) : (raise f s).dec = s.dec := rfl
@[simp] theorem raise_queue (f : Fault) (s : State) : (raise f s).queue = s.queue := rfl
@[simp] theorem raise_xferIn (f : Fault) (s : State) : (raise f s).xferIn = s.xferIn := rfl
@[simp] theorem raise_xferOut (f : Fault) (s : State) : (raise f s).xferOut = s.xferOut := rfl
@[simp] theorem raise_gpuread (f : Fault) (s : State) : (raise f s).gpuread = s.gpuread := rfl
@[simp] theorem raise_tim (f : Fault) (s : State) : (raise f s).tim = s.tim := rfl
@[simp] theorem raise_halted (f : Fault) (s : State) : (raise f s).halted = some f := rfl
@[simp] theorem raise_events (f : Fault) (s : State) : (raise f s).events = s.events := rfl
@[simp] theorem raise_outputs (f : Fault) (s : State) : (raise f s).outputs = s.outputs := rfl
@[simp] theorem raise_mainMem (f : Fault) (s : State) : (raise f s).mainMem = s.mainMem := rfl
@[simp] theorem raise_inByCpu (f : Fault) (s : State) : (raise f s).inByCpu = s.inByCpu := rfl
@[simp] theorem raise_outByCpu (f : Fault) (s : State) : (raise f s).outByCpu = s.outByCpu := rfl
@[simp] theorem raise_draws (f : Fault) (s : State) : (raise f s).draws = s.draws := rfl

@[simp] theorem enqueue_vram (j : Job) (s : State) : (enqueue j s).vram = s.vram := rfl
@[simp] theorem enqueue_st (j : Job) (s : State) : (enqueue j s).st = s.st := rfl
@[simp] theorem enqueue_env (j : Job) (s : State) : (enqueue j s).env = s.env := rfl
@[simp] theorem enqueue_disp (j : Job) (s : State) : (enqueue j s).disp = s.disp := rfl
@[simp] theorem enqueue_dec (j : Job) (s : State) : (enqueue j s).dec = s.dec := rfl
@[simp] theorem enqueue_queue (j : Job) (s : State) : (enqueue j s).queue = s.queue ++ [j] := rfl
@[simp] theorem enqueue_xferIn (j : Job) (s : State) : (enqueue j s).xferIn = s.xferIn := rfl
@[simp] theorem enqueue_xferOut (j : Job) (s : State) : (enqueue j s).xferOut = s.xferOut := rfl
@[simp] theorem enqueue_gpuread (j : Job) (s : State) : (enqueue j s).gpuread = s.gpuread := rfl
@[simp] theorem enqueue_tim (j : Job) (s : State) : (enqueue j s).tim = s.tim := rfl
@[simp] theorem enqueue_halted (j : Job) (s : State) : (enqueue j s).halted = s.halted := rfl
@[simp] theorem enqueue_events (j : Job) (s : State) : (enqueue j s).events = s.events := rfl
@[simp] theorem enqueue_outputs (j : Job) (s : State) : (enqueue j s).outputs = s.outputs := rfl
@[simp] theorem enqueue_mainMem (j : Job) (s : State) : (enqueue j s).mainMem = s.mainMem := rfl
@[simp] theorem enqueue_inByCpu (j : Job) (s : State) : (enqueue j s).inByCpu = s.inByCpu := rfl
@[simp] theorem enqueue_outByCpu (j : Job) (s : State) : (enqueue j s).outByCpu = s.outByCpu := rfl
@[simp] theorem enqueue_draws (j : Job) (s : State) : (enqueue j s).draws = s.draws := rfl

@[simp] theorem emit_vram (o : Output) (s : State) : (emit o s).vram = s.vram := rfl
@[simp] theorem emit_st (o : Output) (s : State) : (emit o s).st = s.st := rfl
@[simp] theorem emit_env (o : Output) (s : State) : (emit o s).env = s.env := rfl
@[simp] theorem emit_disp (o : Output) (s : State) : (emit o s).disp = s.disp := rfl
@[simp] theorem emit_dec (o : Output) (s : State) : (emit o s).dec = s.dec := rfl
@[simp] theorem emit_queue (o : Output) (s : State) : (emit o s).queue = s.queue := rfl
@[simp] theorem emit_xferIn (o : Output) (s : State) : (emit o s).xferIn = s.xferIn := rfl
@[simp] theorem emit_xferOut (o : Output) (s : State) : (emit o s).xferOut = s.xferOut := rfl
@[simp] theorem emit_gpuread (o : Output) (s : State) : (emit o s).gpuread = s.gpuread := rfl
@[simp] theorem emit_tim (o : Output) (s : State) : (emit o s).tim = s.tim := rfl
@[simp] theorem emit_halted (o : Output) (s : State) : (emit o s).halted = s.halted := rfl
@[simp] theorem emit_events (o : Output) (s : State) : (emit o s).events = s.events := rfl
@[simp] theorem emit_outputs (o : Output) (s : State) : (emit o s).outputs = o :: s.outputs := rfl
@[simp] theorem emit_mainMem (o : Output) (s : State) : (emit o s).mainMem = s.mainMem := rfl
@[simp] theorem emit_inByCpu (o : Output) (s : State) : (emit o s).inByCpu = s.inByCpu := rfl
@[simp] theorem emit_outByCpu (o : Output) (s : State) : (emit o s).outByCpu = s.outByCpu := rfl
@[simp] theorem emit_draws (o : Output) (s : State) : (emit o s).draws = s.draws := rfl

@[simp] theorem clearReadyCmd_vram (s : State) : (clearReadyCmd s).vram = s.vram := rfl
@[simp] theorem clearReadyCmd_st (s : State) : (clearReadyCmd s).st = { s.st with readyCmd := false } := rfl
@[simp] theorem clearReadyCmd_env (s : State) : (clearReadyCmd s).env = s.env := rfl
@[simp] theorem clearReadyCmd_disp (s : State) : (clearReadyCmd s).disp = s.disp := rfl
@[simp] theorem clearReadyCmd_dec (s : State) : (clearReadyCmd s).dec = s.dec := rfl
@[simp] theorem clearReadyCmd_queue (s : State) : (clearReadyCmd s).queue = s.queue := rfl
@[simp] theorem clearReadyCmd_xferIn (s : State) : (clearReadyCmd s).xferIn = s.xferIn := rfl
@[simp] theorem clearReadyCmd_xferOut (s : State) : (clearReadyCmd s).xferOut = s.xferOut := rfl
@[simp] theorem clearReadyCmd_gpuread (s : State) : (clearReadyCmd s).gpuread = s.gpuread := rfl
@[simp] theorem clearReadyCmd_tim (s : State) : (clearReadyCmd s).tim = s.tim := rfl
@[simp] theorem clearReadyCmd_halted (s : State) : (clearReadyCmd s).halted = s.halted := rfl
@[simp] theorem clearReadyCmd_events (s : State) : (clearReadyCmd s).events = s.events := rfl
@[simp] theorem clearReadyCmd_outputs (s : State) : (clearReadyCmd s).outputs = s.outputs := rfl
@[simp] theorem clearReadyCmd_mainMem (s : State) : (clearReadyCmd s).mainMem = s.mainMem := rfl
@[simp] theorem clearReadyCmd_inByCpu (s : State) : (clearReadyCmd s).inByCpu = s.inByCpu := rfl
@[simp] theorem clearReadyCmd_outByCpu (s : State) : (clearReadyCmd s).outByCpu = s.outByCpu := rfl
@[simp] theorem clearReadyCmd_draws (s : State) : (clearReadyCmd s).draws = s.draws := rfl

@[simp] theorem settle_vram (b : Bool) (s : State) : (settle b s).vram = s.vram := rfl
@[simp] theorem settle_st (b : Bool) (s : State) : (settle b s).st = { s.st with readyCmd := if s.dec = .idle then true else s.st.readyCmd } := rfl
@[simp] theorem settle_env (b : Bool) (s : State) : (settle b s).env = s.env := rfl
@[simp] theorem settle_disp (b : Bool) (s : State) : (settle b s).disp = s.disp := rfl
@[simp] theorem settle_dec (b : Bool) (s : State) : (settle b s).dec = s.dec := rfl
@[simp] theorem settle_queue (b : Bool) (s : State) : (settle b s).queue = s.queue := rfl
@[simp] theorem settle_xferIn (b : Bool) (s : State) : (settle b s).xferIn = s.xferIn := rfl
@[simp] theorem settle_xferOut (b : Bool) (s : State) : (settle b s).xferOut = s.xferOut := rfl
@[simp] theorem settle_gpuread (b : Bool) (s : State) : (settle b s).gpuread = s.gpuread := rfl
@[simp] theorem settle_tim (b : Bool) (s : State) : (settle b s).tim = s.tim := rfl
@[simp] theorem settle_halted (b : Bool) (s : State) : (settle b s).halted = s.halted := rfl
@[simp] theorem settle_events (b : Bool) (s : State) : (settle b s).events = s.events := rfl
@[simp] theorem settle_outputs (b : Bool) (s : State) : (settle b s).outputs = s.outputs := rfl
@[simp] theorem settle_mainMem (b : Bool) (s : State) : (settle b s).mainMem = s.mainMem := rfl
@[simp] theorem settle_inByCpu (b : Bool) (s : State) : (settle b s).inByCpu = (b && inDataPhase s) := rfl
@[simp] theorem settle_outByCpu (b : Bool) (s : State) : (settle b s).outByCpu = s.outByCpu := rfl
@[simp] theorem settle_draws (b : Bool) (s : State) : (settle b s).draws = s.draws := rfl

@[simp] theorem copyCpuVram_vram (o : CopyXfer) (s : State) : (copyCpuVram o s).vram = s.vram := rfl
@[simp] theorem copyCpuVram_st (o : CopyXfer) (s : State) : (copyCpuVram o s).st = s.st := rfl
@[simp] theorem copyCpuVram_env (o : CopyXfer) (s : State) : (copyCpuVram o s).env = s.env := rfl
@[simp] theorem copyCpuVram_disp (o : CopyXfer) (s : State) : (copyCpuVram o s).disp = s.disp := rfl
@[simp] theorem copyCpuVram_dec (o : CopyXfer) (s : State) : (copyCpuVram o s).dec = s.dec := rfl
@[simp] theorem copyCpuVram_queue (o : CopyXfer) (s : State) : (copyCpuVram o s).queue = s.queue := rfl
@[simp] theorem copyCpuVram_xferIn (o : CopyXfer) (s : State) : (copyCpuVram o s).xferIn = some (startXfer o) := rfl
@[simp] theorem copyCpuVram_xferOut (o : CopyXfer) (s : State) : (copyCpuVram o s).xferOut = s.xferOut := rfl
@[simp] theorem copyCpuVram_gpuread (o : CopyXfer) (s : State) : (copyCpuVram o s).gpuread = s.gpuread := rfl
@[simp] theorem copyCpuVram_tim (o : CopyXfer) (s : State) : (copyCpuVram o s).tim = s.tim := rfl
@[simp] theorem copyCpuVram_halted (o : CopyXfer) (s : State) : (copyCpuVram o s).halted = s.halted := rfl
@[simp] theorem copyCpuVram_events (o : CopyXfer) (s : State) : (copyCpuVram o s).events = s.events := rfl
@[simp] theorem copyCpuVram_outputs (o : CopyXfer) (s : State) : (copyCpuVram o s).outputs = s.outputs := rfl
@[simp] theorem copyCpuVram_mainMem (o : CopyXfer) (s : State) : (copyCpuVram o s).mainMem = s.mainMem := rfl
@[simp] theorem copyCpuVram_inByCpu (o : CopyXfer) (s : State) : (copyCpuVram o s).inByCpu = s.inByCpu := rfl
@[simp] theorem copyCpuVram_outByCpu (o : CopyXfer) (s : State) : (copyCpuVram o s).outByCpu = s.outByCpu := rfl
@[simp] theorem copyCpuVram_draws (o : CopyXfer) (s : State) : (copyCpuVram o s).draws = s.draws := rfl

@[simp] theorem copyVramCpu_vram (o : CopyXfer) (s : State) : (copyVramCpu o s).vram = s.vram := rfl
@[simp] theorem copyVramCpu_st (o : CopyXfer) (s : State) : (copyVramCpu o s).st = { s.st with readySend := true } := rfl
@[simp] theorem copyVramCpu_env (o : CopyXfer) (s : State) : (copyVramCpu o s).env = s.env := rfl
@[simp] theorem copyVramCpu_disp (o : CopyXfer) (s : State) : (copyVramCpu o s).disp = s.disp := rfl
@[simp] theorem copyVramCpu_dec (o : CopyXfer) (s : State) : (copyVramCpu o s).dec = s.dec := rfl
@[simp] theorem copyVramCpu_queue (o : CopyXfer) (s : State) : (copyVramCpu o s).queue = s.queue := rfl
@[simp] theorem copyVramCpu_xferIn (o : CopyXfer) (s : State) : (copyVramCpu o s).xferIn = s.xferIn := rfl
@[simp] theorem copyVramCpu_xferOut (o : CopyXfer) (s : State) : (copyVramCpu o s).xferOut = some (startXfer o) := rfl
@[simp] theorem copyVramCpu_gpuread (o : CopyXfer) (s : State) : (copyVramCpu o s).gpuread = s.gpuread := rfl
@[simp] theorem copyVramCpu_tim (o : CopyXfer) (s : State) : (copyVramCpu o s).tim = s.tim := rfl
@[simp] theorem copyVramCpu_halted (o : CopyXfer) (s : State) : (copyVramCpu o s).halted = s.halted := rfl
@[simp] theorem copyVramCpu_events (o : CopyXfer) (s : State) : (copyVramCpu o s).events = s.events := rfl
@[simp] theorem copyVramCpu_outputs (o : CopyXfer) (s : State) : (copyVramCpu o s).outputs = s.outputs := rfl
@[simp] theorem copyVramCpu_mainMem (o : CopyXfer) (s : State) : (copyVramCpu o s).mainMem = s.mainMem := rfl
@[simp] theorem copyVramCpu_inByCpu (o : CopyXfer) (s : State) : (copyVramCpu o s).inByCpu = s.inByCpu := rfl
@[simp] theorem copyVramCpu_outByCpu (o : CopyXfer) (s : State) : (copyVramCpu o s).outByCpu = false := rfl
@[simp] theorem copyVramCpu_draws (o : CopyXfer) (s : State) : (copyVramCpu o s).draws = s.draws := rfl

@[simp] theorem live_raise (f : Fault) (s : State) : live (raise f s) = false := rfl
@[simp] theorem live_enqueue (j : Job) (s : State) : live (enqueue j s) = live s := rfl
@[simp] theorem live_emit (o : Output) (s : State) : live (emit o s) = live s := rfl
@[simp] theorem live_clearReadyCmd (s : State) : live (clearReadyCmd s) = live s := rfl
@[simp] theorem live_settle (b : Bool) (s : State) : live (settle b s) = live s := rfl
@[simp] theorem live_copyCpuVram (o : CopyXfer) (s : State) : live (copyCpuVram o s) = live s := rfl
@[simp] theorem live_copyVramCpu (o : CopyXfer) (s : State) : live (copyVramCpu o s) = live s := rfl

theorem live_iff (s : State) : live s = true ↔ s.halted = none := by
  simp [live]

theorem live_eq_false_iff (s : State) : live s = false ↔ ∃ f, s.halted = some f := by
  cases h : s.halted <;> simp [live, h]

@[simp] theorem live_mk (v st e d dc q xi xo g t ev o m a b n) :
    live ⟨v, st, e, d, dc, q, xi, xo, g, t, none, ev, o, m, a, b, n⟩ = true := rfl

@[simp] theorem andThen_refused (e : Refusal) (f : State → Result) : andThen (.refused e) f = .refused e := rfl
@[simp] theorem andThen_fault (e : Fault) (f : State → Result) : andThen (.fault e) f = .fault e := rfl
theorem andThen_live {s : State} (h : live s = true) (f : State → Result) : andThen (.next s) f = f s := by
  simp [andThen, h]
theorem andThen_dead {s : State} (h : live s = false) (f : State → Result) : andThen (.next s) f = .next s := by
  simp [andThen, h]

/-- Everything `andThen` can answer with a next state: the first part stopped on a fault, or both ran. -/
theorem andThen_next {o : Result} {f : State → Result} {t : State} (h : andThen o f = .next t) :
    (o = .next t ∧ live t = false) ∨ ∃ s, o = .next s ∧ live s = true ∧ f s = .next t := by
  cases o with
  | fault e => simp at h
  | refused e => simp at h
  | next s =>
    cases hl : live s with
    | true => rw [andThen_live hl] at h; exact .inr ⟨s, rfl, hl, h⟩
    | false => rw [andThen_dead hl] at h; cases h; exact .inl ⟨rfl, hl⟩

theorem andThen_assoc (o : Result) (f g : State → Result) :
    andThen (andThen o f) g = andThen o (fun s => andThen (f s) g) := by
  cases o with
  | fault e => rfl
  | refused e => rfl
  | next s =>
    cases hl : live s with
    | true => simp [andThen_live hl]
    | false => simp [andThen_dead hl]

end Sys2Proof.Machine
end

