-- ==== Sys2Proof/Laws/Cells.lean ====
section
/-! SUPPORT. Read after write and the canonical form: sparse cells, VRAM, main memory. -/

namespace Sys2Proof.Machine

/-! ### Cells -/

theorem cellAt_putCell_self {α : Type} (k : Nat) (v : α) (l : List (Nat × α)) : cellAt k (putCell k v l) = some v := by
  induction l with
  | nil => simp [putCell, cellAt]
  | cons e t ih =>
    obtain ⟨j, w⟩ := e
    simp only [putCell]
    split
    · simp [cellAt]
    · split
      · simp [cellAt]
      · rename_i h
        simp [cellAt, ih, Ne.symm h]

theorem cellAt_putCell_ne {α : Type} {k j : Nat} (h : j ≠ k) (v : α) (l : List (Nat × α)) :
    cellAt j (putCell k v l) = cellAt j l := by
  induction l with
  | nil => simp [putCell, cellAt, Ne.symm h]
  | cons e t ih =>
    obtain ⟨i, w⟩ := e
    simp only [putCell]
    split
    · simp [cellAt, Ne.symm h]
    · split
      · rename_i h2
        subst h2
        simp [cellAt, Ne.symm h]
      · simp [cellAt, ih]

/-- Every entry after a write is the written one or an old one. -/
theorem mem_putCell {α : Type} {k : Nat} {v : α} {l : List (Nat × α)} {e : Nat × α} (h : e ∈ putCell k v l) :
    e = (k, v) ∨ e ∈ l := by
  induction l with
  | nil => simpa [putCell] using h
  | cons d t ih =>
    obtain ⟨j, w⟩ := d
    simp only [putCell] at h
    split at h
    · simpa using h
    · split at h
      · simp at h ⊢; tauto
      · simp at h ⊢
        rcases h with h | h
        · exact .inr (.inl h)
        · rcases ih h with h | h
          · exact .inl h
          · exact .inr (.inr h)

theorem key_mem_putCell {α : Type} {k j : Nat} {v : α} {l : List (Nat × α)} (h : j ∈ (putCell k v l).map Prod.fst) :
    j = k ∨ j ∈ l.map Prod.fst := by
  obtain ⟨e, he, rfl⟩ := List.mem_map.mp h
  rcases mem_putCell he with rfl | h'
  · exact .inl rfl
  · exact .inr (List.mem_map_of_mem h')

/-- A write keeps the keys strictly rising. -/
theorem putCell_sorted {α : Type} (k : Nat) (v : α) {l : List (Nat × α)} (h : (l.map Prod.fst).Pairwise (· < ·)) :
    ((putCell k v l).map Prod.fst).Pairwise (· < ·) := by
  induction l with
  | nil => simp [putCell]
  | cons e t ih =>
    obtain ⟨j, w⟩ := e
    simp only [List.map_cons, List.pairwise_cons] at h
    simp only [putCell]
    split
    · rename_i hk
      simp only [List.map_cons, List.pairwise_cons]
      refine ⟨?_, h⟩
      intro a ha
      rcases List.mem_cons.mp ha with rfl | ha
      · exact hk
      · exact lt_trans hk (h.1 a ha)
    · split
      · rename_i hk
        subst hk
        simpa [List.pairwise_cons] using h
      · rename_i h1 h2
        simp only [List.map_cons, List.pairwise_cons]
        refine ⟨?_, ih h.2⟩
        intro a ha
        rcases key_mem_putCell ha with rfl | ha
        · omega
        · exact h.1 a ha

/-! ### Pixel formats (R95) -/

theorem narrow_widen (p : P15) : narrow (widen p) = p := by
  apply BitVec.eq_of_getLsbD_eq
  intro i hi
  simp only [narrow, widen, BitVec.getLsbD_append, BitVec.getLsbD_extractLsb', BitVec.getLsbD_ofBool]
  interval_cases i <;> simp

/-! ### VRAM -/

theorem pixelNo_lt {x y : Int} {k : Nat} (h : pixelNo x y = some k) : k < 1024 * 512 := by
  unfold pixelNo at h
  split at h
  · cases h; omega
  · cases h

theorem pixelNo_inj {x y x' y' : Int} {k : Nat} (h : pixelNo x y = some k) (h' : pixelNo x' y' = some k) :
    x = x' ∧ y = y' := by
  unfold pixelNo at h h'
  split at h
  · split at h'
    · cases h; simp at h'; omega
    · cases h'
  · cases h

theorem pixelOf_put_self (s : State) (k : Nat) (p : Pixel) : pixelOf { s with vram := putCell k p s.vram } k = p := by
  simp [pixelOf, cellAt_putCell_self]

theorem pixelOf_put_ne (s : State) {k j : Nat} (h : j ≠ k) (p : Pixel) :
    pixelOf { s with vram := putCell k p s.vram } j = pixelOf s j := by
  simp [pixelOf, cellAt_putCell_ne h]

theorem pixelOf_congr {s t : State} (h : s.vram = t.vram) (k : Nat) : pixelOf s k = pixelOf t k := by
  simp [pixelOf, h]

@[simp] theorem pixelOf_raise (f : Fault) (s : State) (k : Nat) : pixelOf (raise f s) k = pixelOf s k := rfl

/-- Everything a pixel write can do. -/
theorem setPixel_cases (x y : Int) (p : Pixel) (s : State) :
    (∃ k, pixelNo x y = some k ∧ setPixel x y p s = { s with vram := putCell k p s.vram }) ∨
      (pixelNo x y = none ∧ setPixel x y p s = raise (.vramAddressOutOfRange x y) s) := by
  unfold setPixel
  split
  · rename_i k h; exact .inl ⟨k, h, rfl⟩
  · rename_i h; exact .inr ⟨h, rfl⟩

/-- Everything a pixel read can answer. -/
theorem pixelAt_cases (s : State) (x y : Int) :
    (∃ k, pixelNo x y = some k ∧ pixelAt s x y = .ok (pixelOf s k)) ∨
      (pixelNo x y = none ∧ pixelAt s x y = .error (.vramAddressOutOfRange x y)) := by
  unfold pixelAt
  split
  · rename_i k h; exact .inl ⟨k, h, rfl⟩
  · rename_i h; exact .inr ⟨h, rfl⟩

/-- A write of a pixel whose formats agree keeps VRAM canonical and its formats in agreement (R99). -/
theorem putCell_vram {v : Vram} {k : Nat} {p : Pixel} (hk : k < 1024 * 512) (hp : p.p15 = narrow p.c24)
    (hw : v.wf) (ha : v.agree) : Vram.wf (putCell k p v) ∧ Vram.agree (putCell k p v) := by
  refine ⟨⟨putCell_sorted k p hw.1, ?_⟩, ?_⟩
  · intro j hj
    rcases key_mem_putCell hj with rfl | hj
    · exact hk
    · exact hw.2 j hj
  · intro e he
    rcases mem_putCell he with rfl | he
    · exact hp
    · exact ha e he

theorem setPixel_storeInv {x y : Int} {p : Pixel} {s : State} (hp : p.p15 = narrow p.c24) (h : StoreInv s) :
    StoreInv (setPixel x y p s) := by
  rcases setPixel_cases x y p s with ⟨k, hk, e⟩ | ⟨_, e⟩ <;> rw [e]
  · obtain ⟨a, b⟩ := putCell_vram (pixelNo_lt hk) hp h.vramForm h.vramAgree
    exact ⟨a, b, h.memForm⟩
  · exact ⟨h.vramForm, h.vramAgree, h.memForm⟩

theorem setPix24_storeInv {x y : Int} {c : C24} {s : State} (h : StoreInv s) : StoreInv (setPix24 x y c s) :=
  setPixel_storeInv rfl h

theorem setPix15_storeInv {x y : Int} {p : P15} {s : State} (h : StoreInv s) : StoreInv (setPix15 x y p s) :=
  setPixel_storeInv (narrow_widen p).symm h

/-! ### Main memory -/

theorem ramByte_put_self (m : Memory) (a : Nat) (b : Byte) : ramByte (putCell a b m) a = b := by
  simp [ramByte, cellAt_putCell_self]

theorem ramByte_put_ne (m : Memory) {a j : Nat} (h : j ≠ a) (b : Byte) : ramByte (putCell a b m) j = ramByte m j := by
  simp [ramByte, cellAt_putCell_ne h]

/-- `MemWrite` changes no byte outside its four. -/
theorem ramByte_memWrite_ne (m : Memory) (a j : Nat) (v : Word) (h : j < a ∨ a + 4 ≤ j) :
    ramByte (memWrite m a v) j = ramByte m j := by
  unfold memWrite
  rw [ramByte_put_ne _ (by omega), ramByte_put_ne _ (by omega), ramByte_put_ne _ (by omega),
    ramByte_put_ne _ (by omega)]

theorem memWrite_wf {m : Memory} (h : m.wf) (a : Nat) (v : Word) : (memWrite m a v).wf :=
  putCell_sorted _ _ (putCell_sorted _ _ (putCell_sorted _ _ (putCell_sorted _ _ h)))

end Sys2Proof.Machine
end

