-- ==== Sys2Proof/Laws/Drawing.lean ====
section
/-! SUPPORT. What the loops and the drawing operations can do: they change at most VRAM and `halted`, they keep the
invariant of the stores, and a pixel they do not visit keeps its value. -/

namespace Sys2Proof.Machine

/-! ### `OnlyVram` -/

theorem OnlyVram.refl (s : State) : OnlyVram s s := rfl

theorem OnlyVram.trans {s t u : State} (h : OnlyVram s t) (h' : OnlyVram t u) : OnlyVram s u := by
  unfold OnlyVram at *
  rw [h'] at *
  rw [h]

theorem OnlyVram.raise (f : Fault) (s : State) : OnlyVram s (raise f s) := rfl

theorem OnlyVram.env {s t : State} (h : OnlyVram s t) : t.env = s.env := by rw [h]
theorem OnlyVram.st {s t : State} (h : OnlyVram s t) : t.st = s.st := by rw [h]

theorem OnlyVram.setPixel (x y : Int) (p : Pixel) (s : State) : OnlyVram s (setPixel x y p s) := by
  rcases setPixel_cases x y p s with ⟨k, _, e⟩ | ⟨_, e⟩ <;> rw [e] <;> rfl

theorem OnlyVram.setPix24 (x y : Int) (c : C24) (s : State) : OnlyVram s (setPix24 x y c s) :=
  OnlyVram.setPixel x y _ s

theorem OnlyVram.setPix15 (x y : Int) (p : P15) (s : State) : OnlyVram s (setPix15 x y p s) :=
  OnlyVram.setPixel x y _ s

/-! ### Loops -/

theorem foldl_live_inv {P : State → Prop} {f : Nat → State → State} (l : List Nat)
    (hf : ∀ i ∈ l, ∀ t, live t = true → P t → P (f i t)) {s : State} (h : P s) :
    P (l.foldl (fun t i => if live t then f i t else t) s) := by
  induction l generalizing s with
  | nil => exact h
  | cons i l ih =>
    apply ih (fun j hj => hf j (by simp [hj]))
    cases hl : live s with
    | true => simpa [hl] using hf i (by simp) s hl h
    | false => simpa [hl] using h

/-- A property every iteration keeps holds after `forCount`. -/
theorem forCount_inv {P : State → Prop} {n : Nat} {f : Nat → State → State}
    (hf : ∀ i, i < n → ∀ t, live t = true → P t → P (f i t)) {s : State} (h : P s) : P (forCount n f s) :=
  foldl_live_inv _ (fun i hi => hf i (List.mem_range.mp hi)) h

/-- A property every pixel step keeps holds after `forGrid`. -/
theorem forGrid_inv {P : State → Prop} {w h : Nat} {f : Nat → Nat → State → State}
    (hf : ∀ i j, i < w → j < h → ∀ t, live t = true → P t → P (f i j t)) {s : State} (hs : P s) :
    P (forGrid w h f s) :=
  forCount_inv (fun j hj _ _ ht => forCount_inv (fun i hi => hf i j hi hj) ht) hs

/-- A property every pixel step keeps holds after `forSpan`, whose pixels lie in the span. -/
theorem forSpan_inv {P : State → Prop} {b : Span} {f : Int → Int → State → State}
    (hf : ∀ x y, b.xs ≤ x → x < b.xe → b.ys ≤ y → y < b.ye → ∀ t, live t = true → P t → P (f x y t)) {s : State}
    (hs : P s) : P (forSpan b f s) := by
  apply forGrid_inv _ hs
  intro i j hi hj
  apply hf <;> omega

/-- One more iteration. -/
theorem forCount_succ (n : Nat) (f : Nat → State → State) (s : State) :
    forCount (n + 1) f s = (if live (forCount n f s) then f n (forCount n f s) else forCount n f s) := by
  unfold forCount
  rw [List.range_succ, List.foldl_append]
  rfl

@[simp] theorem forCount_zero (f : Nat → State → State) (s : State) : forCount 0 f s = s := rfl

/-! ### The pixel pipeline -/

/-- Everything `DrawPixel` can do: nothing, a fault, or one write. -/
theorem drawPixel_cases (x y : Int) (base : Rgb) (tex : Option TexRef) (semi : Bool) (s : State) :
    drawPixel x y base tex semi s = s ∨ (∃ f, drawPixel x y base tex semi s = raise f s) ∨
      ∃ c, drawPixel x y base tex semi s = setPix24 x y c s := by
  unfold drawPixel
  split
  · exact .inr (.inl ⟨_, rfl⟩)
  · split
    · exact .inl rfl
    · split
      · exact .inr (.inl ⟨_, rfl⟩)
      · exact .inl rfl
      · exact .inr (.inr ⟨_, rfl⟩)

/-- What a step that touches one location can do. -/
inductive Touch (x y : Int) (s : State) : State → Prop
  | same : Touch x y s s
  | fault (f : Fault) : Touch x y s (raise f s)
  | write (p : Pixel) (h : p.p15 = narrow p.c24) : Touch x y s (setPixel x y p s)

theorem drawPixel_touch (x y : Int) (base : Rgb) (tex : Option TexRef) (semi : Bool) (s : State) :
    Touch x y s (drawPixel x y base tex semi s) := by
  rcases drawPixel_cases x y base tex semi s with h | ⟨f, h⟩ | ⟨c, h⟩ <;> rw [h]
  · exact .same
  · exact .fault f
  · exact .write _ rfl

theorem Touch.onlyVram {x y : Int} {s t : State} (h : Touch x y s t) : OnlyVram s t := by
  cases h with
  | same => exact OnlyVram.refl s
  | fault f => exact OnlyVram.raise f s
  | write p hp => exact OnlyVram.setPixel x y p s

theorem Touch.storeInv {x y : Int} {s t : State} (h : Touch x y s t) (hs : StoreInv s) : StoreInv t := by
  cases h with
  | same => exact hs
  | fault f => exact ⟨hs.vramForm, hs.vramAgree, hs.memForm⟩
  | write p hp => exact setPixel_storeInv hp hs

theorem Touch.pixelOf_ne {x y : Int} {s t : State} (h : Touch x y s t) {k : Nat} (hk : pixelNo x y ≠ some k) :
    pixelOf t k = pixelOf s k := by
  cases h with
  | same => rfl
  | fault f => rfl
  | write p hp =>
    rcases setPixel_cases x y p s with ⟨j, hj, e⟩ | ⟨_, e⟩ <;> rw [e]
    · exact pixelOf_put_ne s (fun hkj => hk (by rw [hj, hkj])) p
    · rfl

/-- `Painted A s t`: `t` comes from `s` by steps that each touch one location of `A`. -/
inductive Painted (A : Int → Int → Prop) (s : State) : State → Prop
  | refl : Painted A s s
  | step {t u : State} {x y : Int} (h : Painted A s t) (ha : A x y) (hu : Touch x y t u) : Painted A s u

theorem Painted.trans {A : Int → Int → Prop} {s t u : State} (h : Painted A s t) (h' : Painted A t u) :
    Painted A s u := by
  induction h' with
  | refl => exact h
  | step _ ha hu ih => exact .step ih ha hu

theorem Painted.mono {A B : Int → Int → Prop} (hAB : ∀ x y, A x y → B x y) {s t : State} (h : Painted A s t) :
    Painted B s t := by
  induction h with
  | refl => exact .refl
  | step _ ha hu ih => exact .step ih (hAB _ _ ha) hu

theorem Painted.onlyVram {A : Int → Int → Prop} {s t : State} (h : Painted A s t) : OnlyVram s t := by
  induction h with
  | refl => exact OnlyVram.refl s
  | step _ _ hu ih => exact ih.trans hu.onlyVram

theorem Painted.storeInv {A : Int → Int → Prop} {s t : State} (h : Painted A s t) (hs : StoreInv s) :
    StoreInv t := by
  induction h with
  | refl => exact hs
  | step _ _ hu ih => exact hu.storeInv ih

/-- A pixel outside the painted set keeps its value. -/
theorem Painted.pixelOf_out {A : Int → Int → Prop} {s t : State} (h : Painted A s t) {k : Nat}
    (hk : ∀ x y, A x y → pixelNo x y ≠ some k) : pixelOf t k = pixelOf s k := by
  induction h with
  | refl => rfl
  | step _ ha hu ih => rw [hu.pixelOf_ne (hk _ _ ha), ih]

theorem forSpan_painted {b : Span} {f : Int → Int → State → State} (A : Int → Int → Prop)
    (hA : ∀ x y, b.xs ≤ x → x < b.xe → b.ys ≤ y → y < b.ye → A x y) (hf : ∀ x y t, Touch x y t (f x y t))
    (s : State) : Painted A s (forSpan b f s) := by
  apply forSpan_inv (P := Painted A s) _ .refl
  intro x y h1 h2 h3 h4 t _ ht
  exact .step ht (hA x y h1 h2 h3 h4) (hf x y t)

theorem forGrid_painted {w h : Nat} {f : Nat → Nat → State → State} (g : Nat → Nat → Int × Int)
    (A : Int → Int → Prop) (hA : ∀ i j, i < w → j < h → A (g i j).1 (g i j).2)
    (hf : ∀ i j t, Touch (g i j).1 (g i j).2 t (f i j t)) (s : State) : Painted A s (forGrid w h f s) := by
  apply forGrid_inv (P := Painted A s) _ .refl
  intro i j hi hj t _ ht
  exact .step ht (hA i j hi hj) (hf i j t)

/-! ### The drawing commands paint inside the drawing area (R248, R304, R341) -/

theorem clipSpan_inArea {e : DrawEnv} {b : Span} {x y : Int} (h1 : (clipSpan e b).xs ≤ x) (h2 : x < (clipSpan e b).xe)
    (h3 : (clipSpan e b).ys ≤ y) (h4 : y < (clipSpan e b).ye) : inArea e x y = true := by
  simp only [clipSpan] at h1 h2 h3 h4
  simp only [inArea, decide_eq_true_eq]
  omega

/-- The pixels of a drawing area. -/
abbrev Area (e : DrawEnv) (x y : Int) : Prop := inArea e x y = true

/-- A pixel of the drawing area is inside the grid (R98). -/
theorem pixelNo_of_inArea {e : DrawEnv} {x y : Int} (h : inArea e x y = true) :
    pixelNo x y = some (y.toNat * 1024 + x.toNat) := by
  simp only [inArea, decide_eq_true_eq] at h
  have h1 := e.areaRight.isLt
  have h2 := e.areaBottom.isLt
  unfold pixelNo
  rw [if_pos (by omega)]

theorem triPixel_touch (t : Tri) (shaded : Bool) (tex : Option TexAttr) (semi : Bool) (x y : Int) (s : State) :
    Touch x y s (triPixel t shaded tex semi x y s) := by
  unfold triPixel
  split
  · exact drawPixel_touch ..
  · exact .same

theorem triangle_painted (p0 p1 p2 : PVertex) (shaded : Bool) (tex : Option TexAttr) (semi : Bool) (s : State) :
    Painted (Area s.env) s (triangle p0 p1 p2 shaded tex semi s) := by
  unfold triangle
  split
  · exact .refl
  · split
    · exact .refl
    · exact forSpan_painted _ (fun _ _ h1 h2 h3 h4 => clipSpan_inArea h1 h2 h3 h4)
        (fun x y t => triPixel_touch _ shaded tex semi x y t) s

theorem quad_painted (p0 p1 p2 p3 : PVertex) (shaded : Bool) (tex : Option TexAttr) (semi : Bool) (s : State) :
    Painted (Area s.env) s (quad p0 p1 p2 p3 shaded tex semi s) := by
  have h := triangle_painted p0 p1 p2 shaded tex semi s
  unfold quad
  dsimp only
  split
  · have h2 := triangle_painted p1 p2 p3 shaded tex semi (triangle p0 p1 p2 shaded tex semi s)
    rw [h.onlyVram.env] at h2
    exact h.trans h2
  · exact h

theorem linePixel_painted (g : LineGeom) (semi : Bool) (i : Nat) (c : LineCursor) (s : State) :
    Painted (Area s.env) s (linePixel g semi i c s) := by
  unfold linePixel
  split
  · rename_i h; exact .step .refl h (drawPixel_touch ..)
  · exact .refl

theorem lineWalk_painted (g : LineGeom) (semi : Bool) (k i : Nat) (c : LineCursor) (s : State) :
    Painted (Area s.env) s (lineWalk g semi k i c s) := by
  induction k generalizing i c s with
  | zero => exact .refl
  | succ k ih =>
    rw [lineWalk]
    split
    · have h := linePixel_painted g semi i c s
      have h2 := ih (i + 1) (lineStep g c) (linePixel g semi i c s)
      rw [h.onlyVram.env] at h2
      exact h.trans h2
    · exact .refl

theorem line_painted (a b : Vertex) (c0 c1 : Rgb) (semi : Bool) (s : State) :
    Painted (Area s.env) s (line a b c0 c1 semi s) := by
  unfold line
  split
  · exact .refl
  · exact lineWalk_painted ..

theorem rect_painted (x0 y0 : Int) (w h : Nat) (c : Rgb) (tex : Option RectTex) (semi : Bool) (s : State) :
    Painted (Area s.env) s (rect x0 y0 w h c tex semi s) :=
  forSpan_painted _ (fun _ _ h1 h2 h3 h4 => clipSpan_inArea h1 h2 h3 h4) (fun _ _ _ => drawPixel_touch ..) s

/-! ### The fill and the copy inside VRAM -/

theorem copyPixel_touch (sx sy dx dy : Int) (s : State) : Touch dx dy s (copyPixel sx sy dx dy s) := by
  unfold copyPixel
  split
  · exact .fault _
  · split
    · exact .fault _
    · split
      · exact .same
      · exact .write _ rfl

/-- The pixels of a transfer rectangle, the grid or not. -/
def InRect (p : PosXY) (z : SizeWH) (x y : Int) : Prop :=
  (p.x.toNat : Int) ≤ x ∧ x < (p.x.toNat + z.w.toNat : Nat) ∧ (p.y.toNat : Int) ≤ y ∧
    y < (p.y.toNat + z.h.toNat : Nat)

theorem fillRect_painted (o : Fill) (s : State) : Painted (InRect o.pos o.size) s (fillRect o s) :=
  forGrid_painted (fun i j => ((o.pos.x.toNat + i : Nat), (o.pos.y.toNat + j : Nat))) _
    (fun i j hi hj => by simp only [InRect]; omega) (fun _ _ _ => .write _ rfl) s

theorem copyVramVram_painted (o : CopyVV) (s : State) : Painted (InRect o.dst o.size) s (copyVramVram o s) :=
  forGrid_painted (fun i j => ((o.dst.x.toNat + i : Nat), (o.dst.y.toNat + j : Nat))) _
    (fun i j hi hj => by simp only [InRect]; omega) (fun _ _ _ => copyPixel_touch ..) s

end Sys2Proof.Machine
end

