-- ==== Sys2Proof/Laws/Executor.lean ====
section
/-! SUPPORT. What the queue, the schedule and `exec` can do, said once for the proofs that go through them. -/

namespace Sys2Proof.Machine

/-! ### The executor and the queue -/

/-- Every meaning answers a next state: a fault is a halted next state (log 2). -/
theorem exec_next (i : Instr) (s : State) : ∃ t, exec i s = .next t := by
  cases i <;> exact ⟨_, rfl⟩

/-- Sequencing with nothing after it. -/
theorem andThen_pure (o : Result) : andThen o (fun t => .next t) = o := by
  cases o <;> simp [andThen]

theorem drain_nil {s : State} (h : s.queue = []) : drain s = .next s := by
  simp [drain, drainN, h]

/-- Draining a queue of one job runs that job (R202, R205). -/
theorem drain_one {s : State} {j : Job} (h : s.queue = [j]) : drain s = runJob j { s with queue := [] } := by
  simp only [drain, h, List.length_singleton, drainN, execStep]
  exact andThen_pure _

/-- The job of a complete command runs the instruction its words decode to (R196, R202). -/
theorem runJob_cmd {ws : List Word} {i : Instr} (h : decode .gp0 ws = .ok (i, [])) (s : State) :
    runJob (.cmd ws) s = exec i s := by
  simp [runJob, h]

/-! ### The schedule -/

@[simp] theorem pickEvent_free (e : Event) (es : List Event) : pickEvent false (e :: es) = some (e, es) := rfl

theorem pickEvent_other (held : Bool) {e : Event} (es : List Event) (h : isDma e = false) :
    pickEvent held (e :: es) = some (e, es) := by
  simp [pickEvent, h]

/-- A step at an event that is not held runs it. -/
theorem step_event {s : State} {e : Event} {es : List Event} (hh : s.halted = none) (he : s.events = e :: es)
    (hd : isDma e = false ∨ dmaHeld s = false) : step s = runEvent e { s with events := es } := by
  rcases hd with h | h
  · simp [step, hh, he, pickEvent_other _ es h]
  · simp [step, hh, he, h]

/-! ### The canonical forms after reset -/

theorem reset_vram_wf : State.reset.vram.wf := by decide

theorem reset_mainMem_wf : State.reset.mainMem.wf := by decide

end Sys2Proof.Machine
end

