-- ==== Sys2Proof/Laws/PerInstr.lean ====
section
/-! SUPPORT. One lemma per constructor: the encoder writes the instruction's opcode into its first word, and as many
words as the length table of its channel says. -/

namespace Sys2Proof.Laws.EncodeShape

set_option Elab.async false

/-- The first word of `encode i` carries the opcode of `i` (R140), and `encode i` has the words of R150: one for a
GP1 command and for a polyline opcode, which has no length (R322). -/
def Statement (i : Instr) : Prop :=
  (encode i).head?.map opcodeOf = some i.opcode ∧
    (encode i).length = match i.channel with
      | .gp0 => (gp0Words i.opcode).getD 1
      | .gp1 => 1

theorem opcodeOf_corner (op : BitVec 8) (o : Corner) : opcodeOf (o.toWord op) = op := by
  simp [Corner.toWord, opcodeOf, bits_or, bits_place, bits_place_ne]

theorem opcodeOf_dispEn (op : BitVec 8) (o : DispEn) : opcodeOf (o.toWord op) = op := by
  simp [DispEn.toWord, opcodeOf, bits_or, bits_place, bits_placeBit_ne]

theorem opcodeOf_dispMode (op : BitVec 8) (o : DispMode) : opcodeOf (o.toWord op) = op := by
  simp [DispMode.toWord, opcodeOf, bits_or, bits_place, bits_place_ne, bits_placeBit_ne]

theorem opcodeOf_dispStart (op : BitVec 8) (o : DispStart) : opcodeOf (o.toWord op) = op := by
  simp [DispStart.toWord, opcodeOf, bits_or, bits_place, bits_place_ne]

theorem opcodeOf_dmaDir (op : BitVec 8) (o : DmaDir) : opcodeOf (o.toWord op) = op := by
  simp [DmaDir.toWord, opcodeOf, bits_or, bits_place, bits_place_ne]

theorem opcodeOf_drawMode (op : BitVec 8) (o : DrawMode) : opcodeOf (o.toWord op) = op := by
  simp [DrawMode.toWord, opcodeOf, bits_or, bits_place, bits_place_ne, bits_placeBit_ne]

theorem opcodeOf_getInfo (op : BitVec 8) (o : GetInfo) : opcodeOf (o.toWord op) = op := by
  simp [GetInfo.toWord, opcodeOf, bits_or, bits_place, bits_place_ne]

theorem opcodeOf_hRange (op : BitVec 8) (o : HRange) : opcodeOf (o.toWord op) = op := by
  simp [HRange.toWord, opcodeOf, bits_or, bits_place, bits_place_ne]

theorem opcodeOf_maskSet (op : BitVec 8) (o : MaskSet) : opcodeOf (o.toWord op) = op := by
  simp [MaskSet.toWord, opcodeOf, bits_or, bits_place, bits_placeBit_ne]

theorem opcodeOf_offset (op : BitVec 8) (o : Offset) : opcodeOf (o.toWord op) = op := by
  simp [Offset.toWord, opcodeOf, bits_or, bits_place, bits_place_ne]

theorem opcodeOf_texWin (op : BitVec 8) (o : TexWin) : opcodeOf (o.toWord op) = op := by
  simp [TexWin.toWord, opcodeOf, bits_or, bits_place, bits_place_ne]

theorem opcodeOf_vRange (op : BitVec 8) (o : VRange) : opcodeOf (o.toWord op) = op := by
  simp [VRange.toWord, opcodeOf, bits_or, bits_place, bits_place_ne]

theorem nop : Statement .nop := ⟨by simp [encode, Instr.opcode], rfl⟩

theorem clrCache : Statement .clrCache := ⟨by simp [encode, Instr.opcode], rfl⟩

theorem fill (o : Fill) : Statement (.fill o) := ⟨by simp [encode, Fill.toWords, Instr.opcode], rfl⟩

theorem irq : Statement .irq := ⟨by simp [encode, Instr.opcode], rfl⟩

theorem polyF3 (o : PolyF3) : Statement (.polyF3 o) := ⟨by simp [encode, PolyF3.toWords, Instr.opcode], rfl⟩

theorem polyF3At21 (o : PolyF3) : Statement (.polyF3At21 o) := ⟨by simp [encode, PolyF3.toWords, Instr.opcode], rfl⟩

theorem polyF3S (o : PolyF3) : Statement (.polyF3S o) := ⟨by simp [encode, PolyF3.toWords, Instr.opcode], rfl⟩

theorem polyF3SAt23 (o : PolyF3) : Statement (.polyF3SAt23 o) := ⟨by simp [encode, PolyF3.toWords, Instr.opcode], rfl⟩

theorem polyFT3 (o : PolyFT3) : Statement (.polyFT3 o) := ⟨by simp [encode, PolyFT3.toWords, Instr.opcode], rfl⟩

theorem polyFT3R (o : PolyFT3) : Statement (.polyFT3R o) := ⟨by simp [encode, PolyFT3.toWords, Instr.opcode], rfl⟩

theorem polyFT3S (o : PolyFT3) : Statement (.polyFT3S o) := ⟨by simp [encode, PolyFT3.toWords, Instr.opcode], rfl⟩

theorem polyFT3SR (o : PolyFT3) : Statement (.polyFT3SR o) := ⟨by simp [encode, PolyFT3.toWords, Instr.opcode], rfl⟩

theorem polyF4 (o : PolyF4) : Statement (.polyF4 o) := ⟨by simp [encode, PolyF4.toWords, Instr.opcode], rfl⟩

theorem polyF4At29 (o : PolyF4) : Statement (.polyF4At29 o) := ⟨by simp [encode, PolyF4.toWords, Instr.opcode], rfl⟩

theorem polyF4S (o : PolyF4) : Statement (.polyF4S o) := ⟨by simp [encode, PolyF4.toWords, Instr.opcode], rfl⟩

theorem polyF4SAt2b (o : PolyF4) : Statement (.polyF4SAt2b o) := ⟨by simp [encode, PolyF4.toWords, Instr.opcode], rfl⟩

theorem polyFT4 (o : PolyFT4) : Statement (.polyFT4 o) := ⟨by simp [encode, PolyFT4.toWords, Instr.opcode], rfl⟩

theorem polyFT4R (o : PolyFT4) : Statement (.polyFT4R o) := ⟨by simp [encode, PolyFT4.toWords, Instr.opcode], rfl⟩

theorem polyFT4S (o : PolyFT4) : Statement (.polyFT4S o) := ⟨by simp [encode, PolyFT4.toWords, Instr.opcode], rfl⟩

theorem polyFT4SR (o : PolyFT4) : Statement (.polyFT4SR o) := ⟨by simp [encode, PolyFT4.toWords, Instr.opcode], rfl⟩

theorem polyG3 (o : PolyG3) : Statement (.polyG3 o) := ⟨by simp [encode, PolyG3.toWords, Instr.opcode], rfl⟩

theorem polyG3At31 (o : PolyG3) : Statement (.polyG3At31 o) := ⟨by simp [encode, PolyG3.toWords, Instr.opcode], rfl⟩

theorem polyG3S (o : PolyG3) : Statement (.polyG3S o) := ⟨by simp [encode, PolyG3.toWords, Instr.opcode], rfl⟩

theorem polyG3SAt33 (o : PolyG3) : Statement (.polyG3SAt33 o) := ⟨by simp [encode, PolyG3.toWords, Instr.opcode], rfl⟩

theorem polyGT3 (o : PolyGT3) : Statement (.polyGT3 o) := ⟨by simp [encode, PolyGT3.toWords, Instr.opcode], rfl⟩

theorem polyGT3R (o : PolyGT3) : Statement (.polyGT3R o) := ⟨by simp [encode, PolyGT3.toWords, Instr.opcode], rfl⟩

theorem polyGT3S (o : PolyGT3) : Statement (.polyGT3S o) := ⟨by simp [encode, PolyGT3.toWords, Instr.opcode], rfl⟩

theorem polyGT3SR (o : PolyGT3) : Statement (.polyGT3SR o) := ⟨by simp [encode, PolyGT3.toWords, Instr.opcode], rfl⟩

theorem polyG4 (o : PolyG4) : Statement (.polyG4 o) := ⟨by simp [encode, PolyG4.toWords, Instr.opcode], rfl⟩

theorem polyG4At39 (o : PolyG4) : Statement (.polyG4At39 o) := ⟨by simp [encode, PolyG4.toWords, Instr.opcode], rfl⟩

theorem polyG4S (o : PolyG4) : Statement (.polyG4S o) := ⟨by simp [encode, PolyG4.toWords, Instr.opcode], rfl⟩

theorem polyG4SAt3b (o : PolyG4) : Statement (.polyG4SAt3b o) := ⟨by simp [encode, PolyG4.toWords, Instr.opcode], rfl⟩

theorem polyGT4 (o : PolyGT4) : Statement (.polyGT4 o) := ⟨by simp [encode, PolyGT4.toWords, Instr.opcode], rfl⟩

theorem polyGT4R (o : PolyGT4) : Statement (.polyGT4R o) := ⟨by simp [encode, PolyGT4.toWords, Instr.opcode], rfl⟩

theorem polyGT4S (o : PolyGT4) : Statement (.polyGT4S o) := ⟨by simp [encode, PolyGT4.toWords, Instr.opcode], rfl⟩

theorem polyGT4SR (o : PolyGT4) : Statement (.polyGT4SR o) := ⟨by simp [encode, PolyGT4.toWords, Instr.opcode], rfl⟩

theorem lineF (o : LineF) : Statement (.lineF o) := ⟨by simp [encode, LineF.toWords, Instr.opcode], rfl⟩

theorem lineFAt41 (o : LineF) : Statement (.lineFAt41 o) := ⟨by simp [encode, LineF.toWords, Instr.opcode], rfl⟩

theorem lineFS (o : LineF) : Statement (.lineFS o) := ⟨by simp [encode, LineF.toWords, Instr.opcode], rfl⟩

theorem lineFSAt43 (o : LineF) : Statement (.lineFSAt43 o) := ⟨by simp [encode, LineF.toWords, Instr.opcode], rfl⟩

theorem lineFAt44 (o : LineF) : Statement (.lineFAt44 o) := ⟨by simp [encode, LineF.toWords, Instr.opcode], rfl⟩

theorem lineFAt45 (o : LineF) : Statement (.lineFAt45 o) := ⟨by simp [encode, LineF.toWords, Instr.opcode], rfl⟩

theorem lineFSAt46 (o : LineF) : Statement (.lineFSAt46 o) := ⟨by simp [encode, LineF.toWords, Instr.opcode], rfl⟩

theorem lineFSAt47 (o : LineF) : Statement (.lineFSAt47 o) := ⟨by simp [encode, LineF.toWords, Instr.opcode], rfl⟩

theorem polyline48 : Statement .polyline48 := ⟨by simp [encode, Instr.opcode], rfl⟩

theorem polyline49 : Statement .polyline49 := ⟨by simp [encode, Instr.opcode], rfl⟩

theorem polyline4a : Statement .polyline4a := ⟨by simp [encode, Instr.opcode], rfl⟩

theorem polyline4b : Statement .polyline4b := ⟨by simp [encode, Instr.opcode], rfl⟩

theorem polyline4c : Statement .polyline4c := ⟨by simp [encode, Instr.opcode], rfl⟩

theorem polyline4d : Statement .polyline4d := ⟨by simp [encode, Instr.opcode], rfl⟩

theorem polyline4e : Statement .polyline4e := ⟨by simp [encode, Instr.opcode], rfl⟩

theorem polyline4f : Statement .polyline4f := ⟨by simp [encode, Instr.opcode], rfl⟩

theorem lineG (o : LineG) : Statement (.lineG o) := ⟨by simp [encode, LineG.toWords, Instr.opcode], rfl⟩

theorem lineGAt51 (o : LineG) : Statement (.lineGAt51 o) := ⟨by simp [encode, LineG.toWords, Instr.opcode], rfl⟩

theorem lineGS (o : LineG) : Statement (.lineGS o) := ⟨by simp [encode, LineG.toWords, Instr.opcode], rfl⟩

theorem lineGSAt53 (o : LineG) : Statement (.lineGSAt53 o) := ⟨by simp [encode, LineG.toWords, Instr.opcode], rfl⟩

theorem lineGAt54 (o : LineG) : Statement (.lineGAt54 o) := ⟨by simp [encode, LineG.toWords, Instr.opcode], rfl⟩

theorem lineGAt55 (o : LineG) : Statement (.lineGAt55 o) := ⟨by simp [encode, LineG.toWords, Instr.opcode], rfl⟩

theorem lineGSAt56 (o : LineG) : Statement (.lineGSAt56 o) := ⟨by simp [encode, LineG.toWords, Instr.opcode], rfl⟩

theorem lineGSAt57 (o : LineG) : Statement (.lineGSAt57 o) := ⟨by simp [encode, LineG.toWords, Instr.opcode], rfl⟩

theorem polyline58 : Statement .polyline58 := ⟨by simp [encode, Instr.opcode], rfl⟩

theorem polyline59 : Statement .polyline59 := ⟨by simp [encode, Instr.opcode], rfl⟩

theorem polyline5a : Statement .polyline5a := ⟨by simp [encode, Instr.opcode], rfl⟩

theorem polyline5b : Statement .polyline5b := ⟨by simp [encode, Instr.opcode], rfl⟩

theorem polyline5c : Statement .polyline5c := ⟨by simp [encode, Instr.opcode], rfl⟩

theorem polyline5d : Statement .polyline5d := ⟨by simp [encode, Instr.opcode], rfl⟩

theorem polyline5e : Statement .polyline5e := ⟨by simp [encode, Instr.opcode], rfl⟩

theorem polyline5f : Statement .polyline5f := ⟨by simp [encode, Instr.opcode], rfl⟩

theorem rectV (o : RectV) : Statement (.rectV o) := ⟨by simp [encode, RectV.toWords, Instr.opcode], rfl⟩

theorem rectVAt61 (o : RectV) : Statement (.rectVAt61 o) := ⟨by simp [encode, RectV.toWords, Instr.opcode], rfl⟩

theorem rectVS (o : RectV) : Statement (.rectVS o) := ⟨by simp [encode, RectV.toWords, Instr.opcode], rfl⟩

theorem rectVSAt63 (o : RectV) : Statement (.rectVSAt63 o) := ⟨by simp [encode, RectV.toWords, Instr.opcode], rfl⟩

theorem rectTV (o : RectTV) : Statement (.rectTV o) := ⟨by simp [encode, RectTV.toWords, Instr.opcode], rfl⟩

theorem rectTVR (o : RectTV) : Statement (.rectTVR o) := ⟨by simp [encode, RectTV.toWords, Instr.opcode], rfl⟩

theorem rectTVS (o : RectTV) : Statement (.rectTVS o) := ⟨by simp [encode, RectTV.toWords, Instr.opcode], rfl⟩

theorem rectTVSR (o : RectTV) : Statement (.rectTVSR o) := ⟨by simp [encode, RectTV.toWords, Instr.opcode], rfl⟩

theorem rect1 (o : RectS) : Statement (.rect1 o) := ⟨by simp [encode, RectS.toWords, Instr.opcode], rfl⟩

theorem rect1At69 (o : RectS) : Statement (.rect1At69 o) := ⟨by simp [encode, RectS.toWords, Instr.opcode], rfl⟩

theorem rect1S (o : RectS) : Statement (.rect1S o) := ⟨by simp [encode, RectS.toWords, Instr.opcode], rfl⟩

theorem rect1SAt6b (o : RectS) : Statement (.rect1SAt6b o) := ⟨by simp [encode, RectS.toWords, Instr.opcode], rfl⟩

theorem rectT1 (o : RectTS) : Statement (.rectT1 o) := ⟨by simp [encode, RectTS.toWords, Instr.opcode], rfl⟩

theorem rectT1R (o : RectTS) : Statement (.rectT1R o) := ⟨by simp [encode, RectTS.toWords, Instr.opcode], rfl⟩

theorem rectT1S (o : RectTS) : Statement (.rectT1S o) := ⟨by simp [encode, RectTS.toWords, Instr.opcode], rfl⟩

theorem rectT1SR (o : RectTS) : Statement (.rectT1SR o) := ⟨by simp [encode, RectTS.toWords, Instr.opcode], rfl⟩

theorem rect8 (o : RectS) : Statement (.rect8 o) := ⟨by simp [encode, RectS.toWords, Instr.opcode], rfl⟩

theorem rect8At71 (o : RectS) : Statement (.rect8At71 o) := ⟨by simp [encode, RectS.toWords, Instr.opcode], rfl⟩

theorem rect8S (o : RectS) : Statement (.rect8S o) := ⟨by simp [encode, RectS.toWords, Instr.opcode], rfl⟩

theorem rect8SAt73 (o : RectS) : Statement (.rect8SAt73 o) := ⟨by simp [encode, RectS.toWords, Instr.opcode], rfl⟩

theorem rectT8 (o : RectTS) : Statement (.rectT8 o) := ⟨by simp [encode, RectTS.toWords, Instr.opcode], rfl⟩

theorem rectT8R (o : RectTS) : Statement (.rectT8R o) := ⟨by simp [encode, RectTS.toWords, Instr.opcode], rfl⟩

theorem rectT8S (o : RectTS) : Statement (.rectT8S o) := ⟨by simp [encode, RectTS.toWords, Instr.opcode], rfl⟩

theorem rectT8SR (o : RectTS) : Statement (.rectT8SR o) := ⟨by simp [encode, RectTS.toWords, Instr.opcode], rfl⟩

theorem rect16 (o : RectS) : Statement (.rect16 o) := ⟨by simp [encode, RectS.toWords, Instr.opcode], rfl⟩

theorem rect16At79 (o : RectS) : Statement (.rect16At79 o) := ⟨by simp [encode, RectS.toWords, Instr.opcode], rfl⟩

theorem rect16S (o : RectS) : Statement (.rect16S o) := ⟨by simp [encode, RectS.toWords, Instr.opcode], rfl⟩

theorem rect16SAt7b (o : RectS) : Statement (.rect16SAt7b o) := ⟨by simp [encode, RectS.toWords, Instr.opcode], rfl⟩

theorem rectT16 (o : RectTS) : Statement (.rectT16 o) := ⟨by simp [encode, RectTS.toWords, Instr.opcode], rfl⟩

theorem rectT16R (o : RectTS) : Statement (.rectT16R o) := ⟨by simp [encode, RectTS.toWords, Instr.opcode], rfl⟩

theorem rectT16S (o : RectTS) : Statement (.rectT16S o) := ⟨by simp [encode, RectTS.toWords, Instr.opcode], rfl⟩

theorem rectT16SR (o : RectTS) : Statement (.rectT16SR o) := ⟨by simp [encode, RectTS.toWords, Instr.opcode], rfl⟩

theorem copyVV (o : CopyVV) : Statement (.copyVV o) := ⟨by simp [encode, CopyVV.toWords, Instr.opcode], rfl⟩

theorem copyCV (o : CopyXfer) : Statement (.copyCV o) := ⟨by simp [encode, CopyXfer.toWords, Instr.opcode], rfl⟩

theorem copyVC (o : CopyXfer) : Statement (.copyVC o) := ⟨by simp [encode, CopyXfer.toWords, Instr.opcode], rfl⟩

theorem drawMode (o : DrawMode) : Statement (.drawMode o) :=
  ⟨by simp [encode, opcodeOf_drawMode, Instr.opcode], rfl⟩

theorem texWin (o : TexWin) : Statement (.texWin o) :=
  ⟨by simp [encode, opcodeOf_texWin, Instr.opcode], rfl⟩

theorem areaTL (o : Corner) : Statement (.areaTL o) :=
  ⟨by simp [encode, opcodeOf_corner, Instr.opcode], rfl⟩

theorem areaBR (o : Corner) : Statement (.areaBR o) :=
  ⟨by simp [encode, opcodeOf_corner, Instr.opcode], rfl⟩

theorem offset (o : Offset) : Statement (.offset o) :=
  ⟨by simp [encode, opcodeOf_offset, Instr.opcode], rfl⟩

theorem maskSet (o : MaskSet) : Statement (.maskSet o) :=
  ⟨by simp [encode, opcodeOf_maskSet, Instr.opcode], rfl⟩

theorem g1Reset : Statement .g1Reset := ⟨by simp [encode, Instr.opcode], rfl⟩

theorem g1ClrQ : Statement .g1ClrQ := ⟨by simp [encode, Instr.opcode], rfl⟩

theorem g1AckIrq : Statement .g1AckIrq := ⟨by simp [encode, Instr.opcode], rfl⟩

theorem g1DispEn (o : DispEn) : Statement (.g1DispEn o) :=
  ⟨by simp [encode, opcodeOf_dispEn, Instr.opcode], rfl⟩

theorem g1DmaDir (o : DmaDir) : Statement (.g1DmaDir o) :=
  ⟨by simp [encode, opcodeOf_dmaDir, Instr.opcode], rfl⟩

theorem g1DispStart (o : DispStart) : Statement (.g1DispStart o) :=
  ⟨by simp [encode, opcodeOf_dispStart, Instr.opcode], rfl⟩

theorem g1HRange (o : HRange) : Statement (.g1HRange o) :=
  ⟨by simp [encode, opcodeOf_hRange, Instr.opcode], rfl⟩

theorem g1VRange (o : VRange) : Statement (.g1VRange o) :=
  ⟨by simp [encode, opcodeOf_vRange, Instr.opcode], rfl⟩

theorem g1DispMode (o : DispMode) : Statement (.g1DispMode o) :=
  ⟨by simp [encode, opcodeOf_dispMode, Instr.opcode], rfl⟩

theorem g1GetInfo (o : GetInfo) : Statement (.g1GetInfo o) :=
  ⟨by simp [encode, opcodeOf_getInfo, Instr.opcode], rfl⟩

end Sys2Proof.Laws.EncodeShape
end

