-- ==== Sys2Proof/Tests/Slice0.lean ====
section
/-! SUPPORT. The model's own tests: ill-formed instructions refused, words written out from the spec's encodings,
single steps whose expected results are the worked examples of `spec/41_gp0_polygons.md`, `42`, `43` and the vectors
of `spec/95_test_vectors.md`, and for every statement with hypotheses a state and operands that meet them. -/

open Sys2Proof Sys2Proof.Machine Sys2Proof.Claims

namespace Sys2Proof.Tests

set_option Elab.async false

/-! ### Ill-formed instructions are refused (R595) -/

theorem test_wf_polyline : Instr.polyline48.wf = false := by decide
theorem test_wf_copyVV_width : (Instr.copyVV ⟨⟨0, 0⟩, ⟨0, 0⟩, ⟨0, 4⟩⟩).wf = false := by decide
theorem test_wf_copyVV_height : (Instr.copyVV ⟨⟨0, 0⟩, ⟨0, 0⟩, ⟨4, 0⟩⟩).wf = false := by decide
theorem test_wf_copyCV_width : (Instr.copyCV ⟨⟨0, 0⟩, ⟨0, 4⟩⟩).wf = false := by decide
theorem test_wf_copyCV_height : (Instr.copyCV ⟨⟨0, 0⟩, ⟨4, 0⟩⟩).wf = false := by decide
theorem test_wf_copyVC_width : (Instr.copyVC ⟨⟨0, 0⟩, ⟨0, 4⟩⟩).wf = false := by decide
theorem test_wf_copyVC_height : (Instr.copyVC ⟨⟨0, 0⟩, ⟨4, 0⟩⟩).wf = false := by decide
theorem test_wf_reverse : (Instr.g1DispMode ⟨0, false, false, false, false, false, true⟩).wf = false := by decide
theorem test_wf_copy_ok : (Instr.copyVV ⟨⟨0, 0⟩, ⟨0, 0⟩, ⟨1, 1⟩⟩).wf = true := by decide

/-! ### Words written out from R143 to R162, the ignored bits set, and what they decode to -/

/-- The words decode to the instruction with nothing left. -/
def reads (c : Channel) (e : List Word × Instr) : Bool :=
  match decode c e.1 with
  | .ok (i, []) => i == e.2
  | _ => false

theorem test_decode_misc :
  ([
    ([0x00ABCDEF#32], .nop),
    ([0x01ABCDEF#32], .clrCache),
    ([0x02112233#32, 0x0014000A#32, 0x00040005#32], .fill ⟨⟨51, 34, 17⟩, ⟨10, 20⟩, ⟨5, 4⟩⟩),
    ([0x1FABCDEF#32], .irq),
    ([0x80ABCDEF#32, 0x00020001#32, 0x00640065#32, 0x00010003#32], .copyVV ⟨⟨1, 2⟩, ⟨101, 100⟩, ⟨3, 1⟩⟩),
    ([0xA0FFFFFF#32, 0x00320064#32, 0x00020003#32], .copyCV ⟨⟨100, 50⟩, ⟨3, 2⟩⟩),
    ([0xC0FFFFFF#32, 0x00320064#32, 0x00020003#32], .copyVC ⟨⟨100, 50⟩, ⟨3, 2⟩⟩)] : List (List Word × Instr)).all (reads .gp0) = true := by decide +kernel

theorem test_decode_poly_f3 :
  ([
    ([0x204080FF#32, 0x0005F802#32, 0xFFFE0003#32, 0x00640400#32], .polyF3 ⟨⟨255, 128, 64⟩, ⟨2, 5⟩, ⟨3, 2046⟩, ⟨1024,
      100⟩⟩),
    ([0x214080FF#32, 0x0005F802#32, 0xFFFE0003#32, 0x00640400#32], .polyF3At21 ⟨⟨255, 128, 64⟩, ⟨2, 5⟩, ⟨3, 2046⟩,
      ⟨1024, 100⟩⟩),
    ([0x224080FF#32, 0x0005F802#32, 0xFFFE0003#32, 0x00640400#32], .polyF3S ⟨⟨255, 128, 64⟩, ⟨2, 5⟩, ⟨3, 2046⟩, ⟨1024,
      100⟩⟩),
    ([0x234080FF#32, 0x0005F802#32, 0xFFFE0003#32, 0x00640400#32], .polyF3SAt23 ⟨⟨255, 128, 64⟩, ⟨2, 5⟩, ⟨3, 2046⟩,
      ⟨1024, 100⟩⟩)] : List (List Word × Instr)).all (reads .gp0) = true := by decide +kernel

theorem test_decode_poly_ft3 :
  ([
    ([0x244080FF#32, 0x0005F802#32, 0x78123456#32, 0xFFFE0003#32, 0x01851234#32, 0x00640400#32, 0xFFFF0807#32],
      .polyFT3 ⟨⟨255, 128, 64⟩, ⟨2, 5⟩, ⟨86, 52⟩, ⟨18, 480⟩, ⟨3, 2046⟩, ⟨52, 18⟩, ⟨5, 0, 3⟩, ⟨1024, 100⟩, ⟨7, 8⟩⟩),
    ([0x254080FF#32, 0x0005F802#32, 0x78123456#32, 0xFFFE0003#32, 0x01851234#32, 0x00640400#32, 0xFFFF0807#32],
      .polyFT3R ⟨⟨255, 128, 64⟩, ⟨2, 5⟩, ⟨86, 52⟩, ⟨18, 480⟩, ⟨3, 2046⟩, ⟨52, 18⟩, ⟨5, 0, 3⟩, ⟨1024, 100⟩, ⟨7, 8⟩⟩),
    ([0x264080FF#32, 0x0005F802#32, 0x78123456#32, 0xFFFE0003#32, 0x01851234#32, 0x00640400#32, 0xFFFF0807#32],
      .polyFT3S ⟨⟨255, 128, 64⟩, ⟨2, 5⟩, ⟨86, 52⟩, ⟨18, 480⟩, ⟨3, 2046⟩, ⟨52, 18⟩, ⟨5, 0, 3⟩, ⟨1024, 100⟩, ⟨7, 8⟩⟩),
    ([0x274080FF#32, 0x0005F802#32, 0x78123456#32, 0xFFFE0003#32, 0x01851234#32, 0x00640400#32, 0xFFFF0807#32],
      .polyFT3SR ⟨⟨255, 128, 64⟩, ⟨2, 5⟩, ⟨86, 52⟩, ⟨18, 480⟩, ⟨3, 2046⟩, ⟨52, 18⟩, ⟨5, 0, 3⟩, ⟨1024, 100⟩, ⟨7, 8⟩⟩)] : List (List Word × Instr)).all (reads .gp0) = true := by decide +kernel

theorem test_decode_poly_f4 :
  ([
    ([0x284080FF#32, 0x0005F802#32, 0xFFFE0003#32, 0x00640400#32, 0x03FF07FF#32], .polyF4 ⟨⟨255, 128, 64⟩, ⟨2, 5⟩, ⟨3,
      2046⟩, ⟨1024, 100⟩, ⟨2047, 1023⟩⟩),
    ([0x294080FF#32, 0x0005F802#32, 0xFFFE0003#32, 0x00640400#32, 0x03FF07FF#32], .polyF4At29 ⟨⟨255, 128, 64⟩, ⟨2, 5⟩,
      ⟨3, 2046⟩, ⟨1024, 100⟩, ⟨2047, 1023⟩⟩),
    ([0x2A4080FF#32, 0x0005F802#32, 0xFFFE0003#32, 0x00640400#32, 0x03FF07FF#32], .polyF4S ⟨⟨255, 128, 64⟩, ⟨2, 5⟩,
      ⟨3, 2046⟩, ⟨1024, 100⟩, ⟨2047, 1023⟩⟩),
    ([0x2B4080FF#32, 0x0005F802#32, 0xFFFE0003#32, 0x00640400#32, 0x03FF07FF#32], .polyF4SAt2b ⟨⟨255, 128, 64⟩, ⟨2,
      5⟩, ⟨3, 2046⟩, ⟨1024, 100⟩, ⟨2047, 1023⟩⟩)] : List (List Word × Instr)).all (reads .gp0) = true := by decide +kernel

theorem test_decode_poly_ft4 :
  ([
    ([0x2C4080FF#32, 0x0005F802#32, 0x78123456#32, 0xFFFE0003#32, 0x01851234#32, 0x00640400#32, 0xFFFF0807#32,
      0x03FF07FF#32, 0xBEEF6655#32], .polyFT4 ⟨⟨255, 128, 64⟩, ⟨2, 5⟩, ⟨86, 52⟩, ⟨18, 480⟩, ⟨3, 2046⟩, ⟨52, 18⟩, ⟨5,
      0, 3⟩, ⟨1024, 100⟩, ⟨7, 8⟩, ⟨2047, 1023⟩, ⟨85, 102⟩⟩),
    ([0x2D4080FF#32, 0x0005F802#32, 0x78123456#32, 0xFFFE0003#32, 0x01851234#32, 0x00640400#32, 0xFFFF0807#32,
      0x03FF07FF#32, 0xBEEF6655#32], .polyFT4R ⟨⟨255, 128, 64⟩, ⟨2, 5⟩, ⟨86, 52⟩, ⟨18, 480⟩, ⟨3, 2046⟩, ⟨52, 18⟩, ⟨5,
      0, 3⟩, ⟨1024, 100⟩, ⟨7, 8⟩, ⟨2047, 1023⟩, ⟨85, 102⟩⟩),
    ([0x2E4080FF#32, 0x0005F802#32, 0x78123456#32, 0xFFFE0003#32, 0x01851234#32, 0x00640400#32, 0xFFFF0807#32,
      0x03FF07FF#32, 0xBEEF6655#32], .polyFT4S ⟨⟨255, 128, 64⟩, ⟨2, 5⟩, ⟨86, 52⟩, ⟨18, 480⟩, ⟨3, 2046⟩, ⟨52, 18⟩, ⟨5,
      0, 3⟩, ⟨1024, 100⟩, ⟨7, 8⟩, ⟨2047, 1023⟩, ⟨85, 102⟩⟩),
    ([0x2F4080FF#32, 0x0005F802#32, 0x78123456#32, 0xFFFE0003#32, 0x01851234#32, 0x00640400#32, 0xFFFF0807#32,
      0x03FF07FF#32, 0xBEEF6655#32], .polyFT4SR ⟨⟨255, 128, 64⟩, ⟨2, 5⟩, ⟨86, 52⟩, ⟨18, 480⟩, ⟨3, 2046⟩, ⟨52, 18⟩, ⟨5,
      0, 3⟩, ⟨1024, 100⟩, ⟨7, 8⟩, ⟨2047, 1023⟩, ⟨85, 102⟩⟩)] : List (List Word × Instr)).all (reads .gp0) = true := by decide +kernel

theorem test_decode_poly_g3 :
  ([
    ([0x304080FF#32, 0x0005F802#32, 0xAB0CFF01#32, 0xFFFE0003#32, 0xCD102030#32, 0x00640400#32], .polyG3 ⟨⟨255, 128,
      64⟩, ⟨2, 5⟩, ⟨1, 255, 12⟩, ⟨3, 2046⟩, ⟨48, 32, 16⟩, ⟨1024, 100⟩⟩),
    ([0x314080FF#32, 0x0005F802#32, 0xAB0CFF01#32, 0xFFFE0003#32, 0xCD102030#32, 0x00640400#32], .polyG3At31 ⟨⟨255,
      128, 64⟩, ⟨2, 5⟩, ⟨1, 255, 12⟩, ⟨3, 2046⟩, ⟨48, 32, 16⟩, ⟨1024, 100⟩⟩),
    ([0x324080FF#32, 0x0005F802#32, 0xAB0CFF01#32, 0xFFFE0003#32, 0xCD102030#32, 0x00640400#32], .polyG3S ⟨⟨255, 128,
      64⟩, ⟨2, 5⟩, ⟨1, 255, 12⟩, ⟨3, 2046⟩, ⟨48, 32, 16⟩, ⟨1024, 100⟩⟩),
    ([0x334080FF#32, 0x0005F802#32, 0xAB0CFF01#32, 0xFFFE0003#32, 0xCD102030#32, 0x00640400#32], .polyG3SAt33 ⟨⟨255,
      128, 64⟩, ⟨2, 5⟩, ⟨1, 255, 12⟩, ⟨3, 2046⟩, ⟨48, 32, 16⟩, ⟨1024, 100⟩⟩)] : List (List Word × Instr)).all (reads .gp0) = true := by decide +kernel

theorem test_decode_poly_gt3 :
  ([
    ([0x344080FF#32, 0x0005F802#32, 0x78123456#32, 0xAB0CFF01#32, 0xFFFE0003#32, 0x01851234#32, 0xCD102030#32,
      0x00640400#32, 0xFFFF0807#32], .polyGT3 ⟨⟨255, 128, 64⟩, ⟨2, 5⟩, ⟨86, 52⟩, ⟨18, 480⟩, ⟨1, 255, 12⟩, ⟨3, 2046⟩,
      ⟨52, 18⟩, ⟨5, 0, 3⟩, ⟨48, 32, 16⟩, ⟨1024, 100⟩, ⟨7, 8⟩⟩),
    ([0x354080FF#32, 0x0005F802#32, 0x78123456#32, 0xAB0CFF01#32, 0xFFFE0003#32, 0x01851234#32, 0xCD102030#32,
      0x00640400#32, 0xFFFF0807#32], .polyGT3R ⟨⟨255, 128, 64⟩, ⟨2, 5⟩, ⟨86, 52⟩, ⟨18, 480⟩, ⟨1, 255, 12⟩, ⟨3, 2046⟩,
      ⟨52, 18⟩, ⟨5, 0, 3⟩, ⟨48, 32, 16⟩, ⟨1024, 100⟩, ⟨7, 8⟩⟩),
    ([0x364080FF#32, 0x0005F802#32, 0x78123456#32, 0xAB0CFF01#32, 0xFFFE0003#32, 0x01851234#32, 0xCD102030#32,
      0x00640400#32, 0xFFFF0807#32], .polyGT3S ⟨⟨255, 128, 64⟩, ⟨2, 5⟩, ⟨86, 52⟩, ⟨18, 480⟩, ⟨1, 255, 12⟩, ⟨3, 2046⟩,
      ⟨52, 18⟩, ⟨5, 0, 3⟩, ⟨48, 32, 16⟩, ⟨1024, 100⟩, ⟨7, 8⟩⟩),
    ([0x374080FF#32, 0x0005F802#32, 0x78123456#32, 0xAB0CFF01#32, 0xFFFE0003#32, 0x01851234#32, 0xCD102030#32,
      0x00640400#32, 0xFFFF0807#32], .polyGT3SR ⟨⟨255, 128, 64⟩, ⟨2, 5⟩, ⟨86, 52⟩, ⟨18, 480⟩, ⟨1, 255, 12⟩, ⟨3, 2046⟩,
      ⟨52, 18⟩, ⟨5, 0, 3⟩, ⟨48, 32, 16⟩, ⟨1024, 100⟩, ⟨7, 8⟩⟩)] : List (List Word × Instr)).all (reads .gp0) = true := by decide +kernel

theorem test_decode_poly_g4 :
  ([
    ([0x384080FF#32, 0x0005F802#32, 0xAB0CFF01#32, 0xFFFE0003#32, 0xCD102030#32, 0x00640400#32, 0xEF998877#32,
      0x03FF07FF#32], .polyG4 ⟨⟨255, 128, 64⟩, ⟨2, 5⟩, ⟨1, 255, 12⟩, ⟨3, 2046⟩, ⟨48, 32, 16⟩, ⟨1024, 100⟩, ⟨119, 136,
      153⟩, ⟨2047, 1023⟩⟩),
    ([0x394080FF#32, 0x0005F802#32, 0xAB0CFF01#32, 0xFFFE0003#32, 0xCD102030#32, 0x00640400#32, 0xEF998877#32,
      0x03FF07FF#32], .polyG4At39 ⟨⟨255, 128, 64⟩, ⟨2, 5⟩, ⟨1, 255, 12⟩, ⟨3, 2046⟩, ⟨48, 32, 16⟩, ⟨1024, 100⟩, ⟨119,
      136, 153⟩, ⟨2047, 1023⟩⟩),
    ([0x3A4080FF#32, 0x0005F802#32, 0xAB0CFF01#32, 0xFFFE0003#32, 0xCD102030#32, 0x00640400#32, 0xEF998877#32,
      0x03FF07FF#32], .polyG4S ⟨⟨255, 128, 64⟩, ⟨2, 5⟩, ⟨1, 255, 12⟩, ⟨3, 2046⟩, ⟨48, 32, 16⟩, ⟨1024, 100⟩, ⟨119, 136,
      153⟩, ⟨2047, 1023⟩⟩),
    ([0x3B4080FF#32, 0x0005F802#32, 0xAB0CFF01#32, 0xFFFE0003#32, 0xCD102030#32, 0x00640400#32, 0xEF998877#32,
      0x03FF07FF#32], .polyG4SAt3b ⟨⟨255, 128, 64⟩, ⟨2, 5⟩, ⟨1, 255, 12⟩, ⟨3, 2046⟩, ⟨48, 32, 16⟩, ⟨1024, 100⟩, ⟨119,
      136, 153⟩, ⟨2047, 1023⟩⟩)] : List (List Word × Instr)).all (reads .gp0) = true := by decide +kernel

theorem test_decode_poly_gt4 :
  ([
    ([0x3C4080FF#32, 0x0005F802#32, 0x78123456#32, 0xAB0CFF01#32, 0xFFFE0003#32, 0x01851234#32, 0xCD102030#32,
      0x00640400#32, 0xFFFF0807#32, 0xEF998877#32, 0x03FF07FF#32, 0xBEEF6655#32], .polyGT4 ⟨⟨255, 128, 64⟩, ⟨2, 5⟩,
      ⟨86, 52⟩, ⟨18, 480⟩, ⟨1, 255, 12⟩, ⟨3, 2046⟩, ⟨52, 18⟩, ⟨5, 0, 3⟩, ⟨48, 32, 16⟩, ⟨1024, 100⟩, ⟨7, 8⟩, ⟨119, 136,
      153⟩, ⟨2047, 1023⟩, ⟨85, 102⟩⟩),
    ([0x3D4080FF#32, 0x0005F802#32, 0x78123456#32, 0xAB0CFF01#32, 0xFFFE0003#32, 0x01851234#32, 0xCD102030#32,
      0x00640400#32, 0xFFFF0807#32, 0xEF998877#32, 0x03FF07FF#32, 0xBEEF6655#32], .polyGT4R ⟨⟨255, 128, 64⟩, ⟨2, 5⟩,
      ⟨86, 52⟩, ⟨18, 480⟩, ⟨1, 255, 12⟩, ⟨3, 2046⟩, ⟨52, 18⟩, ⟨5, 0, 3⟩, ⟨48, 32, 16⟩, ⟨1024, 100⟩, ⟨7, 8⟩, ⟨119, 136,
      153⟩, ⟨2047, 1023⟩, ⟨85, 102⟩⟩),
    ([0x3E4080FF#32, 0x0005F802#32, 0x78123456#32, 0xAB0CFF01#32, 0xFFFE0003#32, 0x01851234#32, 0xCD102030#32,
      0x00640400#32, 0xFFFF0807#32, 0xEF998877#32, 0x03FF07FF#32, 0xBEEF6655#32], .polyGT4S ⟨⟨255, 128, 64⟩, ⟨2, 5⟩,
      ⟨86, 52⟩, ⟨18, 480⟩, ⟨1, 255, 12⟩, ⟨3, 2046⟩, ⟨52, 18⟩, ⟨5, 0, 3⟩, ⟨48, 32, 16⟩, ⟨1024, 100⟩, ⟨7, 8⟩, ⟨119, 136,
      153⟩, ⟨2047, 1023⟩, ⟨85, 102⟩⟩),
    ([0x3F4080FF#32, 0x0005F802#32, 0x78123456#32, 0xAB0CFF01#32, 0xFFFE0003#32, 0x01851234#32, 0xCD102030#32,
      0x00640400#32, 0xFFFF0807#32, 0xEF998877#32, 0x03FF07FF#32, 0xBEEF6655#32], .polyGT4SR ⟨⟨255, 128, 64⟩, ⟨2, 5⟩,
      ⟨86, 52⟩, ⟨18, 480⟩, ⟨1, 255, 12⟩, ⟨3, 2046⟩, ⟨52, 18⟩, ⟨5, 0, 3⟩, ⟨48, 32, 16⟩, ⟨1024, 100⟩, ⟨7, 8⟩, ⟨119, 136,
      153⟩, ⟨2047, 1023⟩, ⟨85, 102⟩⟩)] : List (List Word × Instr)).all (reads .gp0) = true := by decide +kernel

theorem test_decode_line_1 :
  ([
    ([0x404080FF#32, 0x0005F802#32, 0xFFFE0003#32], .lineF ⟨⟨255, 128, 64⟩, ⟨2, 5⟩, ⟨3, 2046⟩⟩),
    ([0x414080FF#32, 0x0005F802#32, 0xFFFE0003#32], .lineFAt41 ⟨⟨255, 128, 64⟩, ⟨2, 5⟩, ⟨3, 2046⟩⟩),
    ([0x424080FF#32, 0x0005F802#32, 0xFFFE0003#32], .lineFS ⟨⟨255, 128, 64⟩, ⟨2, 5⟩, ⟨3, 2046⟩⟩),
    ([0x434080FF#32, 0x0005F802#32, 0xFFFE0003#32], .lineFSAt43 ⟨⟨255, 128, 64⟩, ⟨2, 5⟩, ⟨3, 2046⟩⟩),
    ([0x444080FF#32, 0x0005F802#32, 0xFFFE0003#32], .lineFAt44 ⟨⟨255, 128, 64⟩, ⟨2, 5⟩, ⟨3, 2046⟩⟩),
    ([0x454080FF#32, 0x0005F802#32, 0xFFFE0003#32], .lineFAt45 ⟨⟨255, 128, 64⟩, ⟨2, 5⟩, ⟨3, 2046⟩⟩),
    ([0x464080FF#32, 0x0005F802#32, 0xFFFE0003#32], .lineFSAt46 ⟨⟨255, 128, 64⟩, ⟨2, 5⟩, ⟨3, 2046⟩⟩),
    ([0x474080FF#32, 0x0005F802#32, 0xFFFE0003#32], .lineFSAt47 ⟨⟨255, 128, 64⟩, ⟨2, 5⟩, ⟨3, 2046⟩⟩)] : List (List Word × Instr)).all (reads .gp0) = true := by decide +kernel

theorem test_decode_line_2 :
  ([
    ([0x504080FF#32, 0x0005F802#32, 0xAB0CFF01#32, 0xFFFE0003#32], .lineG ⟨⟨255, 128, 64⟩, ⟨2, 5⟩, ⟨1, 255, 12⟩, ⟨3,
      2046⟩⟩),
    ([0x514080FF#32, 0x0005F802#32, 0xAB0CFF01#32, 0xFFFE0003#32], .lineGAt51 ⟨⟨255, 128, 64⟩, ⟨2, 5⟩, ⟨1, 255, 12⟩,
      ⟨3, 2046⟩⟩),
    ([0x524080FF#32, 0x0005F802#32, 0xAB0CFF01#32, 0xFFFE0003#32], .lineGS ⟨⟨255, 128, 64⟩, ⟨2, 5⟩, ⟨1, 255, 12⟩, ⟨3,
      2046⟩⟩),
    ([0x534080FF#32, 0x0005F802#32, 0xAB0CFF01#32, 0xFFFE0003#32], .lineGSAt53 ⟨⟨255, 128, 64⟩, ⟨2, 5⟩, ⟨1, 255, 12⟩,
      ⟨3, 2046⟩⟩),
    ([0x544080FF#32, 0x0005F802#32, 0xAB0CFF01#32, 0xFFFE0003#32], .lineGAt54 ⟨⟨255, 128, 64⟩, ⟨2, 5⟩, ⟨1, 255, 12⟩,
      ⟨3, 2046⟩⟩),
    ([0x554080FF#32, 0x0005F802#32, 0xAB0CFF01#32, 0xFFFE0003#32], .lineGAt55 ⟨⟨255, 128, 64⟩, ⟨2, 5⟩, ⟨1, 255, 12⟩,
      ⟨3, 2046⟩⟩),
    ([0x564080FF#32, 0x0005F802#32, 0xAB0CFF01#32, 0xFFFE0003#32], .lineGSAt56 ⟨⟨255, 128, 64⟩, ⟨2, 5⟩, ⟨1, 255, 12⟩,
      ⟨3, 2046⟩⟩),
    ([0x574080FF#32, 0x0005F802#32, 0xAB0CFF01#32, 0xFFFE0003#32], .lineGSAt57 ⟨⟨255, 128, 64⟩, ⟨2, 5⟩, ⟨1, 255, 12⟩,
      ⟨3, 2046⟩⟩)] : List (List Word × Instr)).all (reads .gp0) = true := by decide +kernel

theorem test_decode_polyline_1 :
  ([
    ([0x48ABCDEF#32], .polyline48),
    ([0x49ABCDEF#32], .polyline49),
    ([0x4AABCDEF#32], .polyline4a),
    ([0x4BABCDEF#32], .polyline4b),
    ([0x4CABCDEF#32], .polyline4c),
    ([0x4DABCDEF#32], .polyline4d),
    ([0x4EABCDEF#32], .polyline4e),
    ([0x4FABCDEF#32], .polyline4f)] : List (List Word × Instr)).all (reads .gp0) = true := by decide +kernel

theorem test_decode_polyline_2 :
  ([
    ([0x58ABCDEF#32], .polyline58),
    ([0x59ABCDEF#32], .polyline59),
    ([0x5AABCDEF#32], .polyline5a),
    ([0x5BABCDEF#32], .polyline5b),
    ([0x5CABCDEF#32], .polyline5c),
    ([0x5DABCDEF#32], .polyline5d),
    ([0x5EABCDEF#32], .polyline5e),
    ([0x5FABCDEF#32], .polyline5f)] : List (List Word × Instr)).all (reads .gp0) = true := by decide +kernel

theorem test_decode_rect_v :
  ([
    ([0x604080FF#32, 0x0005F802#32, 0xFE03FC05#32], .rectV ⟨⟨255, 128, 64⟩, ⟨2, 5⟩, ⟨5, 3⟩⟩),
    ([0x614080FF#32, 0x0005F802#32, 0xFE03FC05#32], .rectVAt61 ⟨⟨255, 128, 64⟩, ⟨2, 5⟩, ⟨5, 3⟩⟩),
    ([0x624080FF#32, 0x0005F802#32, 0xFE03FC05#32], .rectVS ⟨⟨255, 128, 64⟩, ⟨2, 5⟩, ⟨5, 3⟩⟩),
    ([0x634080FF#32, 0x0005F802#32, 0xFE03FC05#32], .rectVSAt63 ⟨⟨255, 128, 64⟩, ⟨2, 5⟩, ⟨5, 3⟩⟩)] : List (List Word × Instr)).all (reads .gp0) = true := by decide +kernel

theorem test_decode_rect_tv :
  ([
    ([0x644080FF#32, 0x0005F802#32, 0x78123456#32, 0xFE03FC05#32], .rectTV ⟨⟨255, 128, 64⟩, ⟨2, 5⟩, ⟨86, 52⟩, ⟨18,
      480⟩, ⟨5, 3⟩⟩),
    ([0x654080FF#32, 0x0005F802#32, 0x78123456#32, 0xFE03FC05#32], .rectTVR ⟨⟨255, 128, 64⟩, ⟨2, 5⟩, ⟨86, 52⟩, ⟨18,
      480⟩, ⟨5, 3⟩⟩),
    ([0x664080FF#32, 0x0005F802#32, 0x78123456#32, 0xFE03FC05#32], .rectTVS ⟨⟨255, 128, 64⟩, ⟨2, 5⟩, ⟨86, 52⟩, ⟨18,
      480⟩, ⟨5, 3⟩⟩),
    ([0x674080FF#32, 0x0005F802#32, 0x78123456#32, 0xFE03FC05#32], .rectTVSR ⟨⟨255, 128, 64⟩, ⟨2, 5⟩, ⟨86, 52⟩, ⟨18,
      480⟩, ⟨5, 3⟩⟩)] : List (List Word × Instr)).all (reads .gp0) = true := by decide +kernel

theorem test_decode_rect_s_1 :
  ([
    ([0x684080FF#32, 0xFFFE0003#32], .rect1 ⟨⟨255, 128, 64⟩, ⟨3, 2046⟩⟩),
    ([0x694080FF#32, 0xFFFE0003#32], .rect1At69 ⟨⟨255, 128, 64⟩, ⟨3, 2046⟩⟩),
    ([0x6A4080FF#32, 0xFFFE0003#32], .rect1S ⟨⟨255, 128, 64⟩, ⟨3, 2046⟩⟩),
    ([0x6B4080FF#32, 0xFFFE0003#32], .rect1SAt6b ⟨⟨255, 128, 64⟩, ⟨3, 2046⟩⟩),
    ([0x704080FF#32, 0xFFFE0003#32], .rect8 ⟨⟨255, 128, 64⟩, ⟨3, 2046⟩⟩),
    ([0x714080FF#32, 0xFFFE0003#32], .rect8At71 ⟨⟨255, 128, 64⟩, ⟨3, 2046⟩⟩),
    ([0x724080FF#32, 0xFFFE0003#32], .rect8S ⟨⟨255, 128, 64⟩, ⟨3, 2046⟩⟩),
    ([0x734080FF#32, 0xFFFE0003#32], .rect8SAt73 ⟨⟨255, 128, 64⟩, ⟨3, 2046⟩⟩)] : List (List Word × Instr)).all (reads .gp0) = true := by decide +kernel

theorem test_decode_rect_s_2 :
  ([
    ([0x784080FF#32, 0xFFFE0003#32], .rect16 ⟨⟨255, 128, 64⟩, ⟨3, 2046⟩⟩),
    ([0x794080FF#32, 0xFFFE0003#32], .rect16At79 ⟨⟨255, 128, 64⟩, ⟨3, 2046⟩⟩),
    ([0x7A4080FF#32, 0xFFFE0003#32], .rect16S ⟨⟨255, 128, 64⟩, ⟨3, 2046⟩⟩),
    ([0x7B4080FF#32, 0xFFFE0003#32], .rect16SAt7b ⟨⟨255, 128, 64⟩, ⟨3, 2046⟩⟩)] : List (List Word × Instr)).all (reads .gp0) = true := by decide +kernel

theorem test_decode_rect_ts_1 :
  ([
    ([0x6C4080FF#32, 0xFFFE0003#32, 0x78123456#32], .rectT1 ⟨⟨255, 128, 64⟩, ⟨3, 2046⟩, ⟨86, 52⟩, ⟨18, 480⟩⟩),
    ([0x6D4080FF#32, 0xFFFE0003#32, 0x78123456#32], .rectT1R ⟨⟨255, 128, 64⟩, ⟨3, 2046⟩, ⟨86, 52⟩, ⟨18, 480⟩⟩),
    ([0x6E4080FF#32, 0xFFFE0003#32, 0x78123456#32], .rectT1S ⟨⟨255, 128, 64⟩, ⟨3, 2046⟩, ⟨86, 52⟩, ⟨18, 480⟩⟩),
    ([0x6F4080FF#32, 0xFFFE0003#32, 0x78123456#32], .rectT1SR ⟨⟨255, 128, 64⟩, ⟨3, 2046⟩, ⟨86, 52⟩, ⟨18, 480⟩⟩),
    ([0x744080FF#32, 0xFFFE0003#32, 0x78123456#32], .rectT8 ⟨⟨255, 128, 64⟩, ⟨3, 2046⟩, ⟨86, 52⟩, ⟨18, 480⟩⟩),
    ([0x754080FF#32, 0xFFFE0003#32, 0x78123456#32], .rectT8R ⟨⟨255, 128, 64⟩, ⟨3, 2046⟩, ⟨86, 52⟩, ⟨18, 480⟩⟩),
    ([0x764080FF#32, 0xFFFE0003#32, 0x78123456#32], .rectT8S ⟨⟨255, 128, 64⟩, ⟨3, 2046⟩, ⟨86, 52⟩, ⟨18, 480⟩⟩),
    ([0x774080FF#32, 0xFFFE0003#32, 0x78123456#32], .rectT8SR ⟨⟨255, 128, 64⟩, ⟨3, 2046⟩, ⟨86, 52⟩, ⟨18, 480⟩⟩)] : List (List Word × Instr)).all (reads .gp0) = true := by decide +kernel

theorem test_decode_rect_ts_2 :
  ([
    ([0x7C4080FF#32, 0xFFFE0003#32, 0x78123456#32], .rectT16 ⟨⟨255, 128, 64⟩, ⟨3, 2046⟩, ⟨86, 52⟩, ⟨18, 480⟩⟩),
    ([0x7D4080FF#32, 0xFFFE0003#32, 0x78123456#32], .rectT16R ⟨⟨255, 128, 64⟩, ⟨3, 2046⟩, ⟨86, 52⟩, ⟨18, 480⟩⟩),
    ([0x7E4080FF#32, 0xFFFE0003#32, 0x78123456#32], .rectT16S ⟨⟨255, 128, 64⟩, ⟨3, 2046⟩, ⟨86, 52⟩, ⟨18, 480⟩⟩),
    ([0x7F4080FF#32, 0xFFFE0003#32, 0x78123456#32], .rectT16SR ⟨⟨255, 128, 64⟩, ⟨3, 2046⟩, ⟨86, 52⟩, ⟨18, 480⟩⟩)] : List (List Word × Instr)).all (reads .gp0) = true := by decide +kernel

theorem test_decode_env :
  ([
    ([0xE1F03A55#32], .drawMode ⟨5, 1, 2, 0, true, false, true, true, true⟩),
    ([0xE2F12345#32], .texWin ⟨5, 26, 8, 2⟩),
    ([0xE3FBC140#32], .areaTL ⟨320, 240⟩),
    ([0xE4FBC140#32], .areaBR ⟨320, 240⟩),
    ([0xE5E02810#32], .offset ⟨16, 1029⟩),
    ([0xE6FFFFFE#32], .maskSet ⟨false, true⟩)] : List (List Word × Instr)).all (reads .gp0) = true := by decide +kernel

theorem test_decode_g1_1 :
  ([
    ([0x00ABCDEF#32], .g1Reset),
    ([0x01ABCDEF#32], .g1ClrQ),
    ([0x02ABCDEF#32], .g1AckIrq),
    ([0x03FFFFFF#32], .g1DispEn ⟨true⟩),
    ([0x04FFFFFE#32], .g1DmaDir ⟨2⟩),
    ([0x05F92345#32], .g1DispStart ⟨837, 72⟩),
    ([0x06C60260#32], .g1HRange ⟨608, 3168⟩),
    ([0x07F4B81E#32], .g1VRange ⟨30, 302⟩)] : List (List Word × Instr)).all (reads .gp1) = true := by decide +kernel

theorem test_decode_g1_2 :
  ([
    ([0x08FFFF2D#32], .g1DispMode ⟨1, true, true, false, true, false, false⟩),
    ([0x10FFFFF7#32], .g1GetInfo ⟨7⟩)] : List (List Word × Instr)).all (reads .gp1) = true := by decide +kernel

theorem test_decode_unknown : (decode .gp0 [0x03000000#32]) = .error (.unknownOpcode .gp0 0x03#8) := by rfl
theorem test_decode_short : (decode .gp0 [0x20FFFFFF#32, 0#32]) = .error (.tooFewWords 0x20#8 4) := by rfl
theorem test_decode_gp1_unknown : (decode .gp1 [0x40000000#32]) = .error (.unknownOpcode .gp1 0x40#8) := by rfl

/-! ### Single steps: the examples of R250 to R377 on the corner of scenario S1 they touch -/

/-- The texel `(i, j)` of scenario S1. -/
def s1Texel (i j : Nat) : P15 :=
  BitVec.ofNat 16 ((if i % 2 = 0 then 0x8000 else 0) + 8 * 1024 + (16 + j) * 32 + (16 + i))

/-- Nine rows of nine background pixels and nine texels of scenario S1. -/
def s1Vram : Vram :=
  (List.range 9).flatMap fun j =>
    ((List.range 9).map fun i => (j * 1024 + i, (⟨⟨false, 0x40, 0x80, 0xC0⟩, 0x6208⟩ : Pixel))) ++
      (List.range 9).map fun i => (j * 1024 + 320 + i, ⟨widen (s1Texel i j), s1Texel i j⟩)

/-- Scenario S1, its texture page set as the rectangle examples set it. -/
def s1 : State :=
  { State.reset with
    vram := s1Vram
    st := { State.reset.st with texPageX := 5, texDepth := 2 }
    env := { State.reset.env with areaRight := 320, areaBottom := 240 } }

/-- Scenario S1, its drawing area cut to the listed corner, for the 16 by 16 rectangles. -/
def s1Corner : State := { s1 with env := { s1.env with areaRight := 9, areaBottom := 9 } }

/-- The state after the last word of a command, the others already collected. -/
def after (s : State) (op : BitVec 8) (ws : List Word) (last : Word) : State :=
  match step { s with
    dec := if ws = [] then .idle else .collect op (ws.length + 1) ws, events := [.writeData last] } with
  | .next t => t
  | _ => s

/-- Pixels as the spec prints them. -/
abbrev Shown := Nat × Nat × Bool × BitVec 8 × BitVec 8 × BitVec 8 × P15

/-- The state shows these pixels and has raised nothing. -/
def shows (t : State) (l : List Shown) : Bool :=
  t.halted.isNone && l.all fun e => px t e.1 e.2.1 == ⟨⟨e.2.2.1, e.2.2.2.1, e.2.2.2.2.1, e.2.2.2.2.2.1⟩, e.2.2.2.2.2.2⟩

/-- R250. -/
theorem test_polyF3 :
    shows (after s1 0x20 [0x204080FF, 0x00000000, 0x00000008] 0x00080000) [(2, 1, false, 0xFF, 0x80, 0x40, 0x221F), (3, 1,
      false, 0xFF, 0x80, 0x40, 0x221F)] = true := by
  decide +kernel

/-- R251. -/
theorem test_polyF3At21 :
    shows (after s1 0x21 [0x214080FF, 0x00000000, 0x00000008] 0x00080000) [(2, 1, false, 0xFF, 0x80, 0x40, 0x221F), (3, 1,
      false, 0xFF, 0x80, 0x40, 0x221F)] = true := by
  decide +kernel

/-- R252. -/
theorem test_polyF3S :
    shows (after s1 0x22 [0x224080FF, 0x00000000, 0x00000008] 0x00080000) [(2, 1, false, 0x9F, 0x80, 0x80, 0x4213), (3, 1,
      false, 0x9F, 0x80, 0x80, 0x4213)] = true := by
  decide +kernel

/-- R253. -/
theorem test_polyF3SAt23 :
    shows (after s1 0x23 [0x234080FF, 0x00000000, 0x00000008] 0x00080000) [(2, 1, false, 0x9F, 0x80, 0x80, 0x4213), (3, 1,
      false, 0x9F, 0x80, 0x80, 0x4213)] = true := by
  decide +kernel

/-- R254. -/
theorem test_polyFT3 :
    shows (after s1 0x24 [0x244080FF, 0x00000000, 0x00000000, 0x00000008, 0x01050008, 0x00080000] 0x00000800) [(2, 1,
      true, 0xFF, 0x88, 0x20, 0x923F), (3, 1, false, 0xFF, 0x88, 0x20, 0x123F)] = true := by
  decide +kernel

/-- R255. -/
theorem test_polyFT3R :
    shows (after s1 0x25 [0x254080FF, 0x00000000, 0x00000000, 0x00000008, 0x01050008, 0x00080000] 0x00000800) [(2, 1,
      true, 0x90, 0x88, 0x40, 0xA232), (3, 1, false, 0x98, 0x88, 0x40, 0x2233)] = true := by
  decide +kernel

/-- R256. -/
theorem test_polyFT3S :
    shows (after s1 0x26 [0x264080FF, 0x00000000, 0x00000000, 0x00000008, 0x01050008, 0x00080000] 0x00000800) [(2, 1,
      true, 0x9F, 0x84, 0x70, 0xBA13), (3, 1, false, 0xFF, 0x88, 0x20, 0x123F)] = true := by
  decide +kernel

/-- R257. -/
theorem test_polyFT3SR :
    shows (after s1 0x27 [0x274080FF, 0x00000000, 0x00000000, 0x00000008, 0x01050008, 0x00080000] 0x00000800) [(2, 1,
      true, 0x68, 0x84, 0x80, 0xC20D), (3, 1, false, 0x98, 0x88, 0x40, 0x2233)] = true := by
  decide +kernel

/-- R258. -/
theorem test_polyF4 :
    shows (after s1 0x28 [0x284080FF, 0x00000000, 0x00000008, 0x00080000] 0x00080008) [(2, 1, false, 0xFF, 0x80, 0x40,
      0x221F), (3, 1, false, 0xFF, 0x80, 0x40, 0x221F), (6, 5, false, 0xFF, 0x80, 0x40, 0x221F)] = true := by
  decide +kernel

/-- R259. -/
theorem test_polyF4At29 :
    shows (after s1 0x29 [0x294080FF, 0x00000000, 0x00000008, 0x00080000] 0x00080008) [(2, 1, false, 0xFF, 0x80, 0x40,
      0x221F), (3, 1, false, 0xFF, 0x80, 0x40, 0x221F), (6, 5, false, 0xFF, 0x80, 0x40, 0x221F)] = true := by
  decide +kernel

/-- R260. -/
theorem test_polyF4S :
    shows (after s1 0x2A [0x2A4080FF, 0x00000000, 0x00000008, 0x00080000] 0x00080008) [(2, 1, false, 0x9F, 0x80, 0x80,
      0x4213), (3, 1, false, 0x9F, 0x80, 0x80, 0x4213), (6, 5, false, 0x9F, 0x80, 0x80, 0x4213)] = true := by
  decide +kernel

/-- R261. -/
theorem test_polyF4SAt2b :
    shows (after s1 0x2B [0x2B4080FF, 0x00000000, 0x00000008, 0x00080000] 0x00080008) [(2, 1, false, 0x9F, 0x80, 0x80,
      0x4213), (3, 1, false, 0x9F, 0x80, 0x80, 0x4213), (6, 5, false, 0x9F, 0x80, 0x80, 0x4213)] = true := by
  decide +kernel

/-- R262. -/
theorem test_polyFT4 :
    shows (after s1 0x2C [0x2C4080FF, 0x00000000, 0x00000000, 0x00000008, 0x01050008, 0x00080000, 0x00000800, 0x00080008]
      0x00000808) [(2, 1, true, 0xFF, 0x88, 0x20, 0x923F), (3, 1, false, 0xFF, 0x88, 0x20, 0x123F), (6, 5, true, 0xFF,
      0xA8, 0x20, 0x92BF)] = true := by
  decide +kernel

/-- R263. -/
theorem test_polyFT4R :
    shows (after s1 0x2D [0x2D4080FF, 0x00000000, 0x00000000, 0x00000008, 0x01050008, 0x00080000, 0x00000800, 0x00080008]
      0x00000808) [(2, 1, true, 0x90, 0x88, 0x40, 0xA232), (3, 1, false, 0x98, 0x88, 0x40, 0x2233), (6, 5, true, 0xB0,
      0xA8, 0x40, 0xA2B6)] = true := by
  decide +kernel

/-- R264. -/
theorem test_polyFT4S :
    shows (after s1 0x2E [0x2E4080FF, 0x00000000, 0x00000000, 0x00000008, 0x01050008, 0x00080000, 0x00000800, 0x00080008]
      0x00000808) [(2, 1, true, 0x9F, 0x84, 0x70, 0xBA13), (3, 1, false, 0xFF, 0x88, 0x20, 0x123F), (6, 5, true, 0x9F,
      0x94, 0x70, 0xBA53)] = true := by
  decide +kernel

/-- R265. -/
theorem test_polyFT4SR :
    shows (after s1 0x2F [0x2F4080FF, 0x00000000, 0x00000000, 0x00000008, 0x01050008, 0x00080000, 0x00000800, 0x00080008]
      0x00000808) [(2, 1, true, 0x68, 0x84, 0x80, 0xC20D), (3, 1, false, 0x98, 0x88, 0x40, 0x2233), (6, 5, true, 0x78,
      0x94, 0x80, 0xC24F)] = true := by
  decide +kernel

/-- R266. -/
theorem test_polyG3 :
    shows (after s1 0x30 [0x304080FF, 0x00000000, 0x0000FF00, 0x00000008, 0x00FF0000] 0x00080000) [(2, 1, false, 0x9F,
      0x8F, 0x47, 0x2233), (3, 1, false, 0x7F, 0x9F, 0x3F, 0x1E6F)] = true := by
  decide +kernel

/-- R267. -/
theorem test_polyG3At31 :
    shows (after s1 0x31 [0x314080FF, 0x00000000, 0x0000FF00, 0x00000008, 0x00FF0000] 0x00080000) [(2, 1, false, 0x9F,
      0x8F, 0x47, 0x2233), (3, 1, false, 0x7F, 0x9F, 0x3F, 0x1E6F)] = true := by
  decide +kernel

/-- R268. -/
theorem test_polyG3S :
    shows (after s1 0x32 [0x324080FF, 0x00000000, 0x0000FF00, 0x00000008, 0x00FF0000] 0x00080000) [(2, 1, false, 0x6F,
      0x87, 0x83, 0x420D), (3, 1, false, 0x5F, 0x8F, 0x7F, 0x3E2B)] = true := by
  decide +kernel

/-- R269. -/
theorem test_polyG3SAt33 :
    shows (after s1 0x33 [0x334080FF, 0x00000000, 0x0000FF00, 0x00000008, 0x00FF0000] 0x00080000) [(2, 1, false, 0x6F,
      0x87, 0x83, 0x420D), (3, 1, false, 0x5F, 0x8F, 0x7F, 0x3E2B)] = true := by
  decide +kernel

/-- R270. -/
theorem test_polyGT3 :
    shows (after s1 0x34 [0x344080FF, 0x00000000, 0x00000000, 0x0000FF00, 0x00000008, 0x01050008, 0x00FF0000, 0x00080000]
      0x00000800) [(2, 1, true, 0xB2, 0x97, 0x23, 0x9256), (3, 1, false, 0x96, 0xA8, 0x1F, 0x0EB2)] = true := by
  decide +kernel

/-- R271. -/
theorem test_polyGT3R :
    shows (after s1 0x35 [0x354080FF, 0x00000000, 0x00000000, 0x0000FF00, 0x00000008, 0x01050008, 0x00FF0000, 0x00080000]
      0x00000800) [(2, 1, true, 0x90, 0x88, 0x40, 0xA232), (3, 1, false, 0x98, 0x88, 0x40, 0x2233)] = true := by
  decide +kernel

/-- R272. -/
theorem test_polyGT3S :
    shows (after s1 0x36 [0x364080FF, 0x00000000, 0x00000000, 0x0000FF00, 0x00000008, 0x01050008, 0x00FF0000, 0x00080000]
      0x00000800) [(2, 1, true, 0x79, 0x8B, 0x71, 0xBA2F), (3, 1, false, 0x96, 0xA8, 0x1F, 0x0EB2)] = true := by
  decide +kernel

/-- R273. -/
theorem test_polyGT3SR :
    shows (after s1 0x37 [0x374080FF, 0x00000000, 0x00000000, 0x0000FF00, 0x00000008, 0x01050008, 0x00FF0000, 0x00080000]
      0x00000800) [(2, 1, true, 0x68, 0x84, 0x80, 0xC20D), (3, 1, false, 0x98, 0x88, 0x40, 0x2233)] = true := by
  decide +kernel

/-- R274. -/
theorem test_polyG4 :
    shows (after s1 0x38 [0x384080FF, 0x00000000, 0x0000FF00, 0x00000008, 0x00FF0000, 0x00080000, 0x00FFFFFF] 0x00080008)
      [(2, 1, false, 0x9F, 0x8F, 0x47, 0x2233), (3, 1, false, 0x7F, 0x9F, 0x3F, 0x1E6F), (6, 5, false, 0x5F, 0xBF,
      0x9F, 0x4EEB)] = true := by
  decide +kernel

/-- R275. -/
theorem test_polyG4At39 :
    shows (after s1 0x39 [0x394080FF, 0x00000000, 0x0000FF00, 0x00000008, 0x00FF0000, 0x00080000, 0x00FFFFFF] 0x00080008)
      [(2, 1, false, 0x9F, 0x8F, 0x47, 0x2233), (3, 1, false, 0x7F, 0x9F, 0x3F, 0x1E6F), (6, 5, false, 0x5F, 0xBF,
      0x9F, 0x4EEB)] = true := by
  decide +kernel

/-- R276. -/
theorem test_polyG4S :
    shows (after s1 0x3A [0x3A4080FF, 0x00000000, 0x0000FF00, 0x00000008, 0x00FF0000, 0x00080000, 0x00FFFFFF] 0x00080008)
      [(2, 1, false, 0x6F, 0x87, 0x83, 0x420D), (3, 1, false, 0x5F, 0x8F, 0x7F, 0x3E2B), (6, 5, false, 0x4F, 0x9F,
      0xAF, 0x5669)] = true := by
  decide +kernel

/-- R277. -/
theorem test_polyG4SAt3b :
    shows (after s1 0x3B [0x3B4080FF, 0x00000000, 0x0000FF00, 0x00000008, 0x00FF0000, 0x00080000, 0x00FFFFFF] 0x00080008)
      [(2, 1, false, 0x6F, 0x87, 0x83, 0x420D), (3, 1, false, 0x5F, 0x8F, 0x7F, 0x3E2B), (6, 5, false, 0x4F, 0x9F,
      0xAF, 0x5669)] = true := by
  decide +kernel

/-- R278. -/
theorem test_polyGT4 :
    shows (after s1 0x3C [0x3C4080FF, 0x00000000, 0x00000000, 0x0000FF00, 0x00000008, 0x01050008, 0x00FF0000, 0x00080000,
      0x00000800, 0x00FFFFFF, 0x00080008] 0x00000808) [(2, 1, true, 0xB2, 0x97, 0x23, 0x9256), (3, 1, false, 0x96,
      0xA8, 0x1F, 0x0EB2), (6, 5, true, 0x82, 0xFA, 0x4F, 0xA7F0)] = true := by
  decide +kernel

/-- R279. -/
theorem test_polyGT4R :
    shows (after s1 0x3D [0x3D4080FF, 0x00000000, 0x00000000, 0x0000FF00, 0x00000008, 0x01050008, 0x00FF0000, 0x00080000,
      0x00000800, 0x00FFFFFF, 0x00080008] 0x00000808) [(2, 1, true, 0x90, 0x88, 0x40, 0xA232), (3, 1, false, 0x98,
      0x88, 0x40, 0x2233), (6, 5, true, 0xB0, 0xA8, 0x40, 0xA2B6)] = true := by
  decide +kernel

/-- R280. -/
theorem test_polyGT4S :
    shows (after s1 0x3E [0x3E4080FF, 0x00000000, 0x00000000, 0x0000FF00, 0x00000008, 0x01050008, 0x00FF0000, 0x00080000,
      0x00000800, 0x00FFFFFF, 0x00080008] 0x00000808) [(2, 1, true, 0x79, 0x8B, 0x71, 0xBA2F), (3, 1, false, 0x96,
      0xA8, 0x1F, 0x0EB2), (6, 5, true, 0x61, 0xBD, 0x87, 0xC2EC)] = true := by
  decide +kernel

/-- R281. -/
theorem test_polyGT4SR :
    shows (after s1 0x3F [0x3F4080FF, 0x00000000, 0x00000000, 0x0000FF00, 0x00000008, 0x01050008, 0x00FF0000, 0x00080000,
      0x00000800, 0x00FFFFFF, 0x00080008] 0x00000808) [(2, 1, true, 0x68, 0x84, 0x80, 0xC20D), (3, 1, false, 0x98,
      0x88, 0x40, 0x2233), (6, 5, true, 0x78, 0x94, 0x80, 0xC24F)] = true := by
  decide +kernel

/-- R306. -/
theorem test_lineF :
    shows (after s1 0x40 [0x404080FF, 0x00010001] 0x00030006) [(1, 1, false, 0xFF, 0x80, 0x40, 0x221F), (4, 2, false,
      0xFF, 0x80, 0x40, 0x221F)] = true := by
  decide +kernel

/-- R307. -/
theorem test_lineFAt41 :
    shows (after s1 0x41 [0x414080FF, 0x00010001] 0x00030006) [(1, 1, false, 0xFF, 0x80, 0x40, 0x221F), (4, 2, false,
      0xFF, 0x80, 0x40, 0x221F)] = true := by
  decide +kernel

/-- R308. -/
theorem test_lineFS :
    shows (after s1 0x42 [0x424080FF, 0x00010001] 0x00030006) [(1, 1, false, 0x9F, 0x80, 0x80, 0x4213), (4, 2, false,
      0x9F, 0x80, 0x80, 0x4213)] = true := by
  decide +kernel

/-- R309. -/
theorem test_lineFSAt43 :
    shows (after s1 0x43 [0x434080FF, 0x00010001] 0x00030006) [(1, 1, false, 0x9F, 0x80, 0x80, 0x4213), (4, 2, false,
      0x9F, 0x80, 0x80, 0x4213)] = true := by
  decide +kernel

/-- R310. -/
theorem test_lineFAt44 :
    shows (after s1 0x44 [0x444080FF, 0x00010001] 0x00030006) [(1, 1, false, 0xFF, 0x80, 0x40, 0x221F), (4, 2, false,
      0xFF, 0x80, 0x40, 0x221F)] = true := by
  decide +kernel

/-- R311. -/
theorem test_lineFAt45 :
    shows (after s1 0x45 [0x454080FF, 0x00010001] 0x00030006) [(1, 1, false, 0xFF, 0x80, 0x40, 0x221F), (4, 2, false,
      0xFF, 0x80, 0x40, 0x221F)] = true := by
  decide +kernel

/-- R312. -/
theorem test_lineFSAt46 :
    shows (after s1 0x46 [0x464080FF, 0x00010001] 0x00030006) [(1, 1, false, 0x9F, 0x80, 0x80, 0x4213), (4, 2, false,
      0x9F, 0x80, 0x80, 0x4213)] = true := by
  decide +kernel

/-- R313. -/
theorem test_lineFSAt47 :
    shows (after s1 0x47 [0x474080FF, 0x00010001] 0x00030006) [(1, 1, false, 0x9F, 0x80, 0x80, 0x4213), (4, 2, false,
      0x9F, 0x80, 0x80, 0x4213)] = true := by
  decide +kernel

/-- R314. -/
theorem test_lineG :
    shows (after s1 0x50 [0x504080FF, 0x00010001, 0x0000FF00] 0x00030006) [(1, 1, false, 0xFF, 0x80, 0x40, 0x221F), (4, 2,
      false, 0x66, 0xCC, 0x19, 0x0F2C)] = true := by
  decide +kernel

/-- R315. -/
theorem test_lineGAt51 :
    shows (after s1 0x51 [0x514080FF, 0x00010001, 0x0000FF00] 0x00030006) [(1, 1, false, 0xFF, 0x80, 0x40, 0x221F), (4, 2,
      false, 0x66, 0xCC, 0x19, 0x0F2C)] = true := by
  decide +kernel

/-- R316. -/
theorem test_lineGS :
    shows (after s1 0x52 [0x524080FF, 0x00010001, 0x0000FF00] 0x00030006) [(1, 1, false, 0x9F, 0x80, 0x80, 0x4213), (4, 2,
      false, 0x53, 0xA6, 0x6C, 0x368A)] = true := by
  decide +kernel

/-- R317. -/
theorem test_lineGSAt53 :
    shows (after s1 0x53 [0x534080FF, 0x00010001, 0x0000FF00] 0x00030006) [(1, 1, false, 0x9F, 0x80, 0x80, 0x4213), (4, 2,
      false, 0x53, 0xA6, 0x6C, 0x368A)] = true := by
  decide +kernel

/-- R318. -/
theorem test_lineGAt54 :
    shows (after s1 0x54 [0x544080FF, 0x00010001, 0x0000FF00] 0x00030006) [(1, 1, false, 0xFF, 0x80, 0x40, 0x221F), (4, 2,
      false, 0x66, 0xCC, 0x19, 0x0F2C)] = true := by
  decide +kernel

/-- R319. -/
theorem test_lineGAt55 :
    shows (after s1 0x55 [0x554080FF, 0x00010001, 0x0000FF00] 0x00030006) [(1, 1, false, 0xFF, 0x80, 0x40, 0x221F), (4, 2,
      false, 0x66, 0xCC, 0x19, 0x0F2C)] = true := by
  decide +kernel

/-- R320. -/
theorem test_lineGSAt56 :
    shows (after s1 0x56 [0x564080FF, 0x00010001, 0x0000FF00] 0x00030006) [(1, 1, false, 0x9F, 0x80, 0x80, 0x4213), (4, 2,
      false, 0x53, 0xA6, 0x6C, 0x368A)] = true := by
  decide +kernel

/-- R321. -/
theorem test_lineGSAt57 :
    shows (after s1 0x57 [0x574080FF, 0x00010001, 0x0000FF00] 0x00030006) [(1, 1, false, 0x9F, 0x80, 0x80, 0x4213), (4, 2,
      false, 0x53, 0xA6, 0x6C, 0x368A)] = true := by
  decide +kernel

/-- R346. -/
theorem test_rectV :
    shows (after s1 0x60 [0x604080FF, 0x00020002] 0x00030005) [(2, 2, false, 0xFF, 0x80, 0x40, 0x221F), (3, 2, false,
      0xFF, 0x80, 0x40, 0x221F)] = true := by
  decide +kernel

/-- R347. -/
theorem test_rectVAt61 :
    shows (after s1 0x61 [0x614080FF, 0x00020002] 0x00030005) [(2, 2, false, 0xFF, 0x80, 0x40, 0x221F), (3, 2, false,
      0xFF, 0x80, 0x40, 0x221F)] = true := by
  decide +kernel

/-- R348. -/
theorem test_rectVS :
    shows (after s1 0x62 [0x624080FF, 0x00020002] 0x00030005) [(2, 2, false, 0x9F, 0x80, 0x80, 0x4213), (3, 2, false,
      0x9F, 0x80, 0x80, 0x4213)] = true := by
  decide +kernel

/-- R349. -/
theorem test_rectVSAt63 :
    shows (after s1 0x63 [0x634080FF, 0x00020002] 0x00030005) [(2, 2, false, 0x9F, 0x80, 0x80, 0x4213), (3, 2, false,
      0x9F, 0x80, 0x80, 0x4213)] = true := by
  decide +kernel

/-- R350. -/
theorem test_rectTV :
    shows (after s1 0x64 [0x644080FF, 0x00020002, 0x00000000] 0x00030005) [(2, 2, true, 0xFF, 0x80, 0x20, 0x921F), (3, 2,
      false, 0xFF, 0x80, 0x20, 0x121F)] = true := by
  decide +kernel

/-- R351. -/
theorem test_rectTVR :
    shows (after s1 0x65 [0x654080FF, 0x00020002, 0x00000000] 0x00030005) [(2, 2, true, 0x80, 0x80, 0x40, 0xA210), (3, 2,
      false, 0x88, 0x80, 0x40, 0x2211)] = true := by
  decide +kernel

/-- R352. -/
theorem test_rectTVS :
    shows (after s1 0x66 [0x664080FF, 0x00020002, 0x00000000] 0x00030005) [(2, 2, true, 0x9F, 0x80, 0x70, 0xBA13), (3, 2,
      false, 0xFF, 0x80, 0x20, 0x121F)] = true := by
  decide +kernel

/-- R353. -/
theorem test_rectTVSR :
    shows (after s1 0x67 [0x674080FF, 0x00020002, 0x00000000] 0x00030005) [(2, 2, true, 0x60, 0x80, 0x80, 0xC20C), (3, 2,
      false, 0x88, 0x80, 0x40, 0x2211)] = true := by
  decide +kernel

/-- R354. -/
theorem test_rect1 :
    shows (after s1 0x68 [0x684080FF] 0x00020002) [(2, 2, false, 0xFF, 0x80, 0x40, 0x221F)] = true := by
  decide +kernel

/-- R355. -/
theorem test_rect1At69 :
    shows (after s1 0x69 [0x694080FF] 0x00020002) [(2, 2, false, 0xFF, 0x80, 0x40, 0x221F)] = true := by
  decide +kernel

/-- R356. -/
theorem test_rect1S :
    shows (after s1 0x6A [0x6A4080FF] 0x00020002) [(2, 2, false, 0x9F, 0x80, 0x80, 0x4213)] = true := by
  decide +kernel

/-- R357. -/
theorem test_rect1SAt6b :
    shows (after s1 0x6B [0x6B4080FF] 0x00020002) [(2, 2, false, 0x9F, 0x80, 0x80, 0x4213)] = true := by
  decide +kernel

/-- R358. -/
theorem test_rectT1 :
    shows (after s1 0x6C [0x6C4080FF, 0x00020002] 0x00000000) [(2, 2, true, 0xFF, 0x80, 0x20, 0x921F)] = true := by
  decide +kernel

/-- R359. -/
theorem test_rectT1R :
    shows (after s1 0x6D [0x6D4080FF, 0x00020002] 0x00000000) [(2, 2, true, 0x80, 0x80, 0x40, 0xA210)] = true := by
  decide +kernel

/-- R360. -/
theorem test_rectT1S :
    shows (after s1 0x6E [0x6E4080FF, 0x00020002] 0x00000000) [(2, 2, true, 0x9F, 0x80, 0x70, 0xBA13)] = true := by
  decide +kernel

/-- R361. -/
theorem test_rectT1SR :
    shows (after s1 0x6F [0x6F4080FF, 0x00020002] 0x00000000) [(2, 2, true, 0x60, 0x80, 0x80, 0xC20C)] = true := by
  decide +kernel

/-- R362. -/
theorem test_rect8 :
    shows (after s1 0x70 [0x704080FF] 0x00020002) [(2, 2, false, 0xFF, 0x80, 0x40, 0x221F), (3, 2, false, 0xFF, 0x80,
      0x40, 0x221F)] = true := by
  decide +kernel

/-- R363. -/
theorem test_rect8At71 :
    shows (after s1 0x71 [0x714080FF] 0x00020002) [(2, 2, false, 0xFF, 0x80, 0x40, 0x221F), (3, 2, false, 0xFF, 0x80,
      0x40, 0x221F)] = true := by
  decide +kernel

/-- R364. -/
theorem test_rect8S :
    shows (after s1 0x72 [0x724080FF] 0x00020002) [(2, 2, false, 0x9F, 0x80, 0x80, 0x4213), (3, 2, false, 0x9F, 0x80,
      0x80, 0x4213)] = true := by
  decide +kernel

/-- R365. -/
theorem test_rect8SAt73 :
    shows (after s1 0x73 [0x734080FF] 0x00020002) [(2, 2, false, 0x9F, 0x80, 0x80, 0x4213), (3, 2, false, 0x9F, 0x80,
      0x80, 0x4213)] = true := by
  decide +kernel

/-- R366. -/
theorem test_rectT8 :
    shows (after s1 0x74 [0x744080FF, 0x00020002] 0x00000000) [(2, 2, true, 0xFF, 0x80, 0x20, 0x921F), (3, 2, false, 0xFF,
      0x80, 0x20, 0x121F)] = true := by
  decide +kernel

/-- R367. -/
theorem test_rectT8R :
    shows (after s1 0x75 [0x754080FF, 0x00020002] 0x00000000) [(2, 2, true, 0x80, 0x80, 0x40, 0xA210), (3, 2, false, 0x88,
      0x80, 0x40, 0x2211)] = true := by
  decide +kernel

/-- R368. -/
theorem test_rectT8S :
    shows (after s1 0x76 [0x764080FF, 0x00020002] 0x00000000) [(2, 2, true, 0x9F, 0x80, 0x70, 0xBA13), (3, 2, false, 0xFF,
      0x80, 0x20, 0x121F)] = true := by
  decide +kernel

/-- R369. -/
theorem test_rectT8SR :
    shows (after s1 0x77 [0x774080FF, 0x00020002] 0x00000000) [(2, 2, true, 0x60, 0x80, 0x80, 0xC20C), (3, 2, false, 0x88,
      0x80, 0x40, 0x2211)] = true := by
  decide +kernel

/-- R370. -/
theorem test_rect16 :
    shows (after s1Corner 0x78 [0x784080FF] 0x00020002) [(2, 2, false, 0xFF, 0x80, 0x40, 0x221F), (3, 2, false, 0xFF,
      0x80, 0x40, 0x221F)] = true := by
  decide +kernel

/-- R371. -/
theorem test_rect16At79 :
    shows (after s1Corner 0x79 [0x794080FF] 0x00020002) [(2, 2, false, 0xFF, 0x80, 0x40, 0x221F), (3, 2, false, 0xFF,
      0x80, 0x40, 0x221F)] = true := by
  decide +kernel

/-- R372. -/
theorem test_rect16S :
    shows (after s1Corner 0x7A [0x7A4080FF] 0x00020002) [(2, 2, false, 0x9F, 0x80, 0x80, 0x4213), (3, 2, false, 0x9F,
      0x80, 0x80, 0x4213)] = true := by
  decide +kernel

/-- R373. -/
theorem test_rect16SAt7b :
    shows (after s1Corner 0x7B [0x7B4080FF] 0x00020002) [(2, 2, false, 0x9F, 0x80, 0x80, 0x4213), (3, 2, false, 0x9F,
      0x80, 0x80, 0x4213)] = true := by
  decide +kernel

/-- R374. -/
theorem test_rectT16 :
    shows (after s1Corner 0x7C [0x7C4080FF, 0x00020002] 0x00000000) [(2, 2, true, 0xFF, 0x80, 0x20, 0x921F), (3, 2, false,
      0xFF, 0x80, 0x20, 0x121F)] = true := by
  decide +kernel

/-- R375. -/
theorem test_rectT16R :
    shows (after s1Corner 0x7D [0x7D4080FF, 0x00020002] 0x00000000) [(2, 2, true, 0x80, 0x80, 0x40, 0xA210), (3, 2, false,
      0x88, 0x80, 0x40, 0x2211)] = true := by
  decide +kernel

/-- R376. -/
theorem test_rectT16S :
    shows (after s1Corner 0x7E [0x7E4080FF, 0x00020002] 0x00000000) [(2, 2, true, 0x9F, 0x80, 0x70, 0xBA13), (3, 2, false,
      0xFF, 0x80, 0x20, 0x121F)] = true := by
  decide +kernel

/-- R377. -/
theorem test_rectT16SR :
    shows (after s1Corner 0x7F [0x7F4080FF, 0x00020002] 0x00000000) [(2, 2, true, 0x60, 0x80, 0x80, 0xC20C), (3, 2, false,
      0x88, 0x80, 0x40, 0x2211)] = true := by
  decide +kernel

/-! ### Single steps: the vectors of `spec/95_test_vectors.md`, V40 to V60 -/

/-- The state after one event. -/
def afterEvent (e : Event) (s : State) : State :=
  match step { s with events := [e] } with
  | .next t => t
  | _ => s

/-- The state after one GP0 word, from idle, and after one GP1 word. -/
def gp0 (w : Word) (s : State) : State := afterEvent (.writeData w) s
def gp1 (w : Word) (s : State) : State := afterEvent (.writeControl w) s

/-- Power-on with events scheduled. -/
def fresh (es : List Event) : State := { State.reset with events := es }

/-- One row of pixels from (0, 0) on, each in both formats. -/
def rowOf (l : List P15) : State :=
  { State.reset with vram := l.zipIdx.map fun e => (e.2, ⟨widen e.1, e.1⟩) }

/-- The 15-bit values at the start of row 0. -/
def row (n : Nat) (s : State) : List P15 := (List.range n).map fun x => (px s x 0).p15

/-- A block in the data phase of a copy to the `w` by 1 pixels from (0, 0) on, `n` of them consumed. -/
def filling (w : BitVec 16) (n : Nat) (s : State) : State :=
  { s with dec := .dataIn ((w.toNat - n + 1) / 2), xferIn := some ⟨0, 0, w, 1, n⟩ }

/-- V40.2, V40.3. -/
theorem test_nop : gp0 0x00ABCDEF State.reset = State.reset := by decide +kernel
/-- V40.4. -/
theorem test_clrCache : gp0 0x01000000 State.reset = State.reset := by decide +kernel
/-- V40.5. -/
theorem test_irq : gpustat (gp0 0x1F000000 State.reset) = 0x15802000 := by decide +kernel
/-- V40.7. -/
theorem test_collect : gpustat (gp0 0x20FFFFFF State.reset) = 0x10802000 := by decide +kernel
/-- V42.11. -/
theorem test_polyline48 : (gp0 0x48000000 State.reset).halted = some (.unsupportedFeature .polyline 0x48) := by
  decide +kernel
/-- V46.1: 16 pixels. -/
theorem test_fill :
    let t := after State.reset 0x02 [0x02112233, 0x000A000A] 0x00040004
    shows t [(10, 10, false, 0x33, 0x22, 0x11, 0x0886), (13, 13, false, 0x33, 0x22, 0x11, 0x0886)] = true ∧
      t.vram.length = 16 := by decide +kernel
/-- V46.9: the two pixels before the fault stay. -/
theorem test_fill_fault :
    let t := after State.reset 0x02 [0x02FFFFFF, 0x000003FE] 0x00010004
    t.halted = some (.vramAddressOutOfRange 1024 0) ∧ t.vram.map Prod.fst = [1022, 1023] := by decide +kernel
/-- V46.5: the first pixel smears. -/
theorem test_copyVV :
    row 5 (after (rowOf [1, 2, 3, 4, 0]) 0x80 [0x80000000, 0x00000000, 0x00000001] 0x00010003) = [1, 1, 1, 1, 0] := by
  decide +kernel
/-- V46.6. -/
theorem test_copyVV_left :
    row 5 (after (rowOf [1, 2, 3, 4, 0]) 0x80 [0x80000000, 0x00000001, 0x00000000] 0x00010003) = [2, 3, 4, 4, 0] := by
  decide +kernel
/-- T10, the header of the first copy. -/
theorem test_copyCV :
    let t := after State.reset 0xA0 [0xA0000000, 0x00320064] 0x00020002
    gpustat t = 0x10802000 ∧ t.dec = .dataIn 2 ∧ t.xferIn = some ⟨100, 50, 2, 2, 0⟩ := by decide +kernel
/-- V46.8. -/
theorem test_copyCV_zero :
    (after State.reset 0xA0 [0xA0000000, 0x00000000] 0x00010000).halted =
      some (.unsupportedFeature .zeroSizeTransfer 0xA0) := by decide +kernel
/-- V46.3, its second data word: the upper half is discarded. -/
theorem test_data_odd :
    let t := gp0 0xFFFF3333 (filling 3 2 (rowOf [0x1111, 0x2222, 0, 0]))
    row 4 t = [0x1111, 0x2222, 0x3333, 0] ∧ t.xferIn = none ∧ t.dec = .idle := by decide +kernel
/-- V45.4 and V45.5: the mask bit is forced, and protects. -/
theorem test_data_mask :
    let s := filling 2 0 (gp0 0xE6000001 (rowOf [0, 0]))
    row 2 (gp0 0x00011234 s) = [0x9234, 0x8001] ∧
      row 2 (gp0 0x7FFF7FFF (filling 2 0 (gp0 0xE6000002 (rowOf [0x9234, 0x8001])))) = [0x9234, 0x8001] := by
  decide +kernel
/-- T10, the header of the readback. -/
theorem test_copyVC :
    gpustat (after State.reset 0xC0 [0xC0000000, 0x00320064] 0x00020002) = 0x1C802000 := by decide +kernel
/-- V46.4, its first two reads. -/
theorem test_readback :
    let s := after (rowOf [0x1111, 0x2222, 0x3333]) 0xC0 [0xC0000000, 0] 0x00010003
    let t := afterEvent .readData s
    t.gpuread = 0x22221111 ∧ (afterEvent .readData t).gpuread = 0x00003333 ∧
      (afterEvent .readData t).xferOut = none := by decide +kernel
/-- V47.2. -/
theorem test_drawMode : gpustat (gp0 0xE1000E7F State.reset) = 0x1480A67F := by decide +kernel
/-- V47.3. -/
theorem test_drawMode_flips :
    let t := gp0 0xE1003000 State.reset
    gpustat t = 0x14802000 ∧ t.env.flipX = true ∧ t.env.flipY = true := by decide +kernel
/-- V47.4. -/
theorem test_texWin :
    let t := (gp0 0xE2000401 State.reset).env
    t.preMaskX = 0xF7 ∧ t.postMaskX = 8 ∧ t.preMaskY = 0xFF ∧ t.postMaskY = 0 ∧ t.twRaw = 0x401 := by decide +kernel
/-- V47.5. -/
theorem test_areaTL :
    let t := (gp0 0xE3002810 State.reset).env
    t.areaLeft = 16 ∧ t.areaTop = 10 := by decide +kernel
theorem test_areaBR :
    let t := (gp0 0xE403C140 State.reset).env
    t.areaRight = 320 ∧ t.areaBottom = 240 := by decide +kernel
/-- V47.6. -/
theorem test_offset :
    let t := (gp0 0xE5002810 State.reset).env
    let u := (gp0 0xE5200400 State.reset).env
    t.offX = 16 ∧ t.offY = 5 ∧ u.offX.toInt = -1024 ∧ u.offY.toInt = -1024 := by decide +kernel
/-- V47.7. -/
theorem test_maskSet : gpustat (gp0 0xE6000003 State.reset) = 0x14803800 := by decide +kernel
/-- T8, the field flag set: bit 31 is kept (R482). -/
theorem test_g1Reset :
    gpustat (gp1 0x00000000 { s1 with tim := ⟨7, 9, true⟩ }) = 0x94802000 := by decide +kernel
/-- R483, in a state no run reaches. -/
theorem test_g1ClrQ :
    (gp1 0x01000000 { State.reset with queue := [.data 5] }).queue = [] := by decide +kernel
/-- V40.6. -/
theorem test_g1AckIrq : gpustat (gp1 0x02000000 (gp0 0x1F000000 State.reset)) = 0x14802000 := by decide +kernel
/-- V48.1. -/
theorem test_g1DispEn : gpustat (gp1 0x03000000 State.reset) = 0x14002000 := by decide +kernel
/-- V48.3. -/
theorem test_g1DmaDir :
    gpustat (gp1 0x04000001 State.reset) = 0x36802000 ∧ gpustat (gp1 0x04000003 State.reset) = 0x74802000 := by
  decide +kernel
/-- V48.4. -/
theorem test_g1DispStart :
    let t := (gp1 0x05012345 State.reset).disp
    t.startX = 837 ∧ t.startY = 72 := by decide +kernel
/-- V48.5. -/
theorem test_g1HRange :
    let t := (gp1 0x06C60260 State.reset).disp
    t.x1 = 0x260 ∧ t.x2 = 0xC60 := by decide +kernel
/-- V48.6. -/
theorem test_g1VRange :
    let t := (gp1 0x0704B81E State.reset).disp
    t.y1 = 0x1E ∧ t.y2 = 0x12E := by decide +kernel
/-- V48.7, V48.10. -/
theorem test_g1DispMode :
    gpustat (gp1 0x08000001 State.reset) = 0x14822000 ∧ gpustat (gp1 0x08000040 State.reset) = 0x14812000 := by
  decide +kernel
/-- V48.12. -/
theorem test_g1DispMode_reverse :
    gp1 0x08000080 State.reset = { State.reset with halted := some (.unsupportedFeature .reverseFlag 0x08) } := by
  decide +kernel
/-- V48.13, one reply, and an index without one. -/
theorem test_g1GetInfo :
    let s := gp0 0xE403C140 State.reset
    (gp1 0x10000004 s).gpuread = 0x0003C140 ∧ (gp1 0x10000006 { s with gpuread := 5 }).gpuread = 5 ∧
      (gp1 0x1000FFF7 s).gpuread = 2 := by decide +kernel
/-- V48.14. -/
theorem test_gp1_unknown : (gp1 0x09000000 State.reset).halted = some (.unknownOpcode .gp1 0x09) := by decide +kernel
/-- V60.1. -/
theorem test_badAccess :
    afterEvent (.badAccess .gpuData 16) State.reset =
      { State.reset with halted := some (.misalignedAccess .gpuData 16) } := by decide +kernel
/-- V60.2. -/
theorem test_unknown :
    let t := gp0 0x03000000 State.reset
    t.halted = some (.unknownOpcode .gp0 0x03) ∧ t.st.readyCmd = false ∧ t.dec = .idle ∧ t.queue = [] := by
  decide +kernel
/-- V49.1. -/
theorem test_tick :
    let t := afterEvent (.tick 100) State.reset
    t.tim = ⟨157, 0, false⟩ ∧ t.outputs = [.sample 10 true true, .vblankPulse] := by decide +kernel
/-- I12: the largest tick runs, the next is refused, NTSC or not. -/
theorem test_tick_bound :
    step (fresh [.tick 2168]) = .refused (.tickTooLong 2168) ∧
      (afterEvent (.tick 2167) State.reset).tim = ⟨3405, 0, false⟩ := ⟨rfl, by decide +kernel⟩
/-- V49.3 and V49.10: the line ends, the frame ends. -/
theorem test_tick_ends :
    (afterEvent (.tick 100) { State.reset with tim := ⟨3297, 0, false⟩ }).tim = ⟨41, 1, false⟩ ∧
      (afterEvent (.tick 100) { State.reset with tim := ⟨3363, 262, false⟩ }).tim = ⟨107, 0, false⟩ := by
  decide +kernel
/-- V44.1: the lowest nibble first. -/
theorem test_sample4 :
    let s := { State.reset with
      vram := [(640, ⟨widen 0x3210, 0x3210⟩), (491520, ⟨widen 0, 0⟩), (491521, ⟨widen 0x1F, 0x1F⟩),
        (491522, ⟨widen 0x83E0, 0x83E0⟩), (491523, ⟨widen 0x7C00, 0x7C00⟩)] }
    ((List.range 4).map fun u => (sample s (BitVec.ofNat 8 u) 0 ⟨0, 480, 640, 0, 0, true⟩).toOption.map Pixel.p15) =
      [some 0, some 0x1F, some 0x83E0, some 0x7C00] := by decide +kernel
/-- V44.3: the cut to 8 bits comes first. -/
theorem test_window :
    texelCoord 0xF7 8 7 = 15 ∧ texelCoord 0xF7 8 0x1F = 31 ∧ texelCoord 0xFF 0 0x105 = 5 ∧
      texelCoord 0xE7 24 37 = 61 := by decide +kernel
/-- V45.1. -/
theorem test_modulate : modulate ⟨0xFF, 0x80, 0x40⟩ ⟨true, 0x90, 0x88, 0x40⟩ = ⟨true, 0xFF, 0x88, 0x20⟩ := by
  decide +kernel
/-- V45.3. -/
theorem test_semi :
    ((List.range 4).map fun m => semiBlend (BitVec.ofNat 2 m) ⟨false, 0x40, 0x80, 0xC0⟩ ⟨true, 0xFF, 0x80, 0x40⟩) =
      [⟨true, 0x9F, 0x80, 0x80⟩, ⟨true, 0xFF, 0xFF, 0xFF⟩, ⟨true, 0, 0, 0x80⟩, ⟨true, 0x7F, 0xA0, 0xD0⟩] := by
  decide +kernel
/-- V41.1: the hypotenuse and its ends are not drawn. -/
theorem test_fillRule :
    let t : Tri := ⟨⟨0, 0, 0, 0, default⟩, ⟨4, 0, 0, 0, default⟩, ⟨0, 4, 0, 0, default⟩, 16⟩
    ((List.range 25).filter fun n => covers t (n % 5 : Nat) (n / 5 : Nat)) = [0, 1, 2, 3, 5, 6, 7, 10, 11, 15] := by
  decide +kernel
/-- The byte at the lowest address is the least significant (log 8). -/
theorem test_memWrite : memWrite [] 4 0x11223344 = [(4, 0x44), (5, 0x33), (6, 0x22), (7, 0x11)] := by decide +kernel

/-! ### For every statement with hypotheses, a state and operands that meet them -/

theorem s1_atRest : AtRest s1 :=
  ⟨rfl, rfl, rfl, rfl, rfl, (by intro t h; cases h), by decide, by decide⟩

theorem witness_WordCountFromBits :
    (0x20#8).extractLsb' 5 3 = 1#3 ∧ (0x3F#8).extractLsb' 5 3 = 1#3 ∧
    (0x40#8).extractLsb' 5 3 = 2#3 ∧ (0x57#8).getLsbD 3 = false ∧ (0x48#8).getLsbD 3 = true ∧
    (0x5F#8).extractLsb' 5 3 = 2#3 ∧ (0x60#8).extractLsb' 5 3 = 3#3 ∧ (0x7F#8).extractLsb' 5 3 = 3#3 := by decide

theorem witness_DecoderLaw :
    (fresh []).halted = none ∧ (fresh []).dec = .idle ∧ gp0Words 0x20#8 = some 4 ∧ opcodeOf 0x200000FF = 0x20#8 ∧
    [0x200000FF#32, 0, 4, 0x40000].length = 4 ∧
    (∀ z, copySize 0x20 [0x200000FF, 0, 4, 0x40000] = some z → z.nonzero = true) ∧ 0 < 3 ∧ 3 < 4 :=
  ⟨rfl, rfl, rfl, rfl, rfl, by intro z h; simp [copySize] at h, by decide, by decide⟩

theorem witness_DecoderLaw_data :
    gp0Words 0xA0#8 = some 3 ∧ opcodeOf 0xA0000000 = 0xA0#8 ∧
    (∀ z, copySize 0xA0 [0xA0000000, 0, 0x00010003] = some z → z.nonzero = true) ∧
    copySize 0xA0 [0xA0000000, 0, 0x00010003] = some ⟨3, 1⟩ ∧ [1#32, 2#32].length = dataWords ⟨3, 1⟩ :=
  ⟨rfl, rfl, by intro z h; simp [copySize] at h; subst h; rfl, rfl, rfl⟩

theorem witness_StepRunsDecoded_idle :
    let s := fresh [.writeData 0x1F000000]
    s.halted = none ∧ s.queue = [] ∧ s.events = .writeData 0x1F000000 :: [] ∧ Instr.irq.wf = true ∧ s.dec = .idle ∧
    decode .gp0 ([] ++ [0x1F000000#32]) = .ok (.irq, []) := ⟨rfl, rfl, rfl, rfl, rfl, rfl⟩

theorem witness_StepRunsDecoded_collect :
    let s := { fresh [.writeData 0x00010001] with dec := .collect 0xA0 3 [0xA0000000, 0] }
    let i := Instr.copyCV ⟨⟨0, 0⟩, ⟨1, 1⟩⟩
    s.halted = none ∧ s.queue = [] ∧ s.events = .writeData 0x00010001 :: [] ∧ i.wf = true ∧
    s.dec = .collect 0xA0 3 [0xA0000000, 0] ∧ [0xA0000000#32, 0] ≠ [] ∧
    [0xA0000000#32, 0].head?.map opcodeOf = some 0xA0#8 ∧ gp0Words 0xA0#8 = some 3 ∧
    [0xA0000000#32, 0].length + 1 = 3 ∧ decode .gp0 ([0xA0000000, 0] ++ [0x00010001]) = .ok (i, []) :=
  ⟨rfl, rfl, rfl, rfl, rfl, by decide, rfl, rfl, rfl, rfl⟩

theorem witness_StepRunsDecoded_control :
    (fresh [.writeControl 0x03000001]).events = .writeControl 0x03000001 :: [] ∧
    decode .gp1 [0x03000001] = .ok (.g1DispEn ⟨true⟩, []) := ⟨rfl, rfl⟩

/-- The ends of every range of unknown opcodes, and the opcodes beside them, which are not in it. -/
theorem witness_DecoderFaults_unknown :
    (∀ n ∈ [0x03#8, 0x1E, 0x81, 0x9F, 0xA1, 0xBF, 0xC1, 0xE0, 0xE7, 0xFF], Unlisted n) ∧
    (∀ n ∈ [0x02#8, 0x1F, 0x80, 0xA0, 0xC0, 0xE1, 0xE6], ¬ Unlisted n) ∧
    (fresh [.writeData 0x03000000]).halted = none ∧ (fresh [.writeData 0x03000000]).dec = .idle ∧
    (fresh [.writeData 0x03000000]).events = .writeData 0x03000000 :: [] ∧ Unlisted (opcodeOf 0x03000000) := by decide

theorem witness_DecoderFaults_size :
    let s := { fresh [.writeData 0x00010000] with dec := .collect 0xC0 3 [0xC0000000, 0] }
    s.halted = none ∧ s.dec = .collect 0xC0 3 [0xC0000000, 0] ∧ [0xC0000000#32, 0].length + 1 = 3 ∧
    s.events = .writeData 0x00010000 :: [] ∧ bits 0x00010000 0 16 = 0#16 ∧ bits 0x00000001 16 16 = 0#16 := by decide

theorem witness_PolylinesRaise :
    (fresh [.writeData 0x5F000000]).dec = .idle ∧ PolylineOp (opcodeOf 0x5F000000) ∧ PolylineOp (opcodeOf 0x48000000) ∧
    ¬ PolylineOp (opcodeOf 0x47000000) ∧ ¬ PolylineOp (opcodeOf 0x60000000) ∧
    { fresh [] with dec := .dataIn 1 }.dec ≠ .idle := by decide

theorem witness_ZeroSize : (⟨0, 5⟩ : SizeWH).w = 0#16 ∧ (⟨5, 0⟩ : SizeWH).h = 0#16 := by decide

theorem witness_HaltedHasNoStep :
    { fresh [] with halted := some .readOnlyBitAsserted }.halted = some Fault.readOnlyBitAsserted ∧
    { fresh [] with halted := some .readOnlyBitAsserted }.halted ≠ none := by decide

theorem witness_MisalignedAccessRaises :
    (fresh [.badAccess .gpuControl 8]).halted = none ∧
    (fresh [.badAccess .gpuControl 8]).events = .badAccess .gpuControl 8 :: [] := ⟨rfl, rfl⟩

theorem witness_ControlDispatch :
    (fresh [.writeControl 0x09000000]).halted = none ∧
    (fresh [.writeControl 0x09000000]).events = .writeControl 0x09000000 :: [] ∧
    ([0x09, 0x0F, 0x11, 0x90, 0xFF].all fun n =>
      decide ((opcodeOf (n * 0x1000000)).toNat > 8 ∧ (opcodeOf (n * 0x1000000)).toNat ≠ 0x10)) = true ∧
    (opcodeOf 0x00000000).toNat = 0 ∧ (opcodeOf 0x01FFFFFF).toNat = 1 ∧ (opcodeOf 0x02FFFFFF).toNat = 2 ∧
    (opcodeOf 0x03FFFFFF).toNat = 3 ∧ (opcodeOf 0x04FFFFFF).toNat = 4 ∧ (opcodeOf 0x05FFFFFF).toNat = 5 ∧
    (opcodeOf 0x06FFFFFF).toNat = 6 ∧ (opcodeOf 0x07FFFFFF).toNat = 7 ∧ (opcodeOf 0x08FFFFFF).toNat = 8 ∧
    (opcodeOf 0x10FFFFFF).toNat = 0x10 := ⟨rfl, rfl, by decide, rfl, rfl, rfl, rfl, rfl, rfl, rfl, rfl, rfl, rfl⟩

theorem witness_ReadControlEvent :
    (fresh [.readControl]).halted = none ∧ (fresh [.readControl]).events = .readControl :: [] := ⟨rfl, rfl⟩

/-- No readback; one with two pixels left and one with its last, at the corner of the grid; one whose first pixel is
off the grid, one whose second is. -/
theorem witness_ReadDataEvent :
    let s := { fresh [.readData] with xferOut := some ⟨1022, 510, 2, 2, 3⟩ }
    (fresh [.readData]).halted = none ∧ (fresh [.readData]).events = .readData :: [] ∧
    (fresh [.readData]).xferOut = none ∧
    s.halted = none ∧ s.events = .readData :: [] ∧ s.xferOut = some ⟨1022, 510, 2, 2, 3⟩ ∧
    2 < (2#16).toNat * (2#16).toNat ∧ PairOnGrid ⟨1022, 510, 2, 2, 2⟩ ∧ 3 < (2#16).toNat * (2#16).toNat ∧
    PairOnGrid ⟨1022, 510, 2, 2, 3⟩ ∧ ¬ OnGrid (xferAt ⟨1023, 0, 3, 1, 1⟩ 1) ∧
    OnGrid (xferAt ⟨1023, 0, 2, 1, 0⟩ 0) ∧ ¬ OnGrid (xferAt ⟨1023, 0, 2, 1, 0⟩ 1) := by decide

theorem witness_GpustatLayout :
    Status.reset.vInterlace = false ∧ { Status.reset with vInterlace := true }.vInterlace = true ∧
    Status.reset.dmaDir = 0#2 ∧ { Status.reset with dmaDir := 1 }.dmaDir = 1#2 ∧
    { Status.reset with dmaDir := 2 }.dmaDir = 2#2 ∧ { Status.reset with dmaDir := 3 }.dmaDir = 3#2 := by decide

theorem witness_PackUnpack :
    let x := 0x14802000#32
    bit x 13 = (if bit x 22 then false else true) ∧ bit x 14 = false ∧
    bit x 25 = (if bits x 29 2 = 0#2 then false else if bits x 29 2 = 1#2 then true
      else if bits x 29 2 = 2#2 then bit x 28 else bit x 27) := by decide

theorem witness_DrawModeResult : opcodeOf 0xE1000E7F = 0xE1#8 := by decide
theorem witness_TexWinResult : opcodeOf 0xE2F12345 = 0xE2#8 := by decide
theorem witness_DrawingAreaResult :
    opcodeOf 0xE3002810 = 0xE3#8 ∧ opcodeOf 0xE403C140 = 0xE4#8 ∧ opcodeOf 0xE4000000 = 0xE4#8 ∧
    (bits 0xE4000000 0 10).toNat ≤ s1.env.areaLeft.toNat := by decide
theorem witness_OffsetAndMaskResult : opcodeOf 0xE5200400 = 0xE5#8 ∧ opcodeOf 0xE6000003 = 0xE6#8 := by decide
theorem witness_DisplayModeResult :
    opcodeOf 0x08000080 = 0x08#8 ∧ bit 0x08000080 7 = true ∧ opcodeOf 0x0800007F = 0x08#8 ∧
    bit 0x0800007F 7 = false := by decide
theorem witness_ControlRegisters :
    opcodeOf 0x03000001 = 0x03#8 ∧ opcodeOf 0x04000003 = 0x04#8 ∧ opcodeOf 0x05012345 = 0x05#8 ∧
    opcodeOf 0x06200C00 = 0x06#8 ∧ (bits 0x06200C00 0 12).toNat > (bits 0x06200C00 12 12).toNat ∧
    opcodeOf 0x07004100 = 0x07#8 ∧ (bits 0x07004100 0 10).toNat > (bits 0x07004100 10 10).toNat := by decide
theorem witness_GetInfoResult :
    opcodeOf 0x10FFFFF7 = 0x10#8 ∧ (fresh []).halted = none ∧ (fresh []).xferOut = none := by decide
theorem witness_ClearQueueFindsNothing : AtRest s1 := s1_atRest

/-- The largest tick inside the spec and the smallest outside it. -/
theorem witness_TickAdvances :
    let s := fresh [.tick 2167]
    s.halted = none ∧ s.events = .tick 2167 :: [] ∧ 2167 * 11 / 7 < 3406 ∧ ¬ 2168 * 11 / 7 < 3406 := by decide

theorem witness_FillPaints : (fresh []).halted = none ∧ InGrid ⟨1022, 510⟩ ⟨2, 2⟩ := by decide

/-- Below the grid, over its right side, over its bottom, and both. -/
theorem witness_FillFaults :
    (fresh []).halted = none ∧ 0 < (⟨2, 2⟩ : SizeWH).w.toNat ∧ 0 < (⟨2, 2⟩ : SizeWH).h.toNat ∧
    ¬ InGrid ⟨0, 512⟩ ⟨2, 2⟩ ∧ ¬ InGrid ⟨1023, 0⟩ ⟨2, 2⟩ ∧ ¬ InGrid ⟨0, 511⟩ ⟨2, 2⟩ ∧ ¬ InGrid ⟨1023, 511⟩ ⟨2, 2⟩ := by
  decide

/-- Both rectangles in the grid; the second source pixel the first one off it; the second destination pixel. -/
theorem witness_CopyInRowOrder :
    let o : CopyVV := ⟨⟨1023, 0⟩, ⟨0, 0⟩, ⟨2, 1⟩⟩
    let p : CopyVV := ⟨⟨0, 0⟩, ⟨0, 511⟩, ⟨1, 2⟩⟩
    (fresh []).halted = none ∧ (⟨2, 2⟩ : SizeWH).nonzero = true ∧ InGrid ⟨1022, 510⟩ ⟨2, 2⟩ ∧
    InGrid ⟨1021, 510⟩ ⟨2, 2⟩ ∧
    o.size.nonzero = true ∧ 1 < o.size.w.toNat * o.size.h.toNat ∧
    (∀ m, m < 1 → OnGrid (copySrc o m) ∧ OnGrid (copyDst o m)) ∧ ¬ OnGrid (copySrc o 1) ∧
    p.size.nonzero = true ∧ 1 < p.size.w.toNat * p.size.h.toNat ∧
    (∀ m, m < 1 → OnGrid (copySrc p m) ∧ OnGrid (copyDst p m)) ∧ OnGrid (copySrc p 1) ∧ ¬ OnGrid (copyDst p 1) := by
  decide

/-- Side by side, with nothing between. -/
theorem witness_CopyDisjoint :
    let o : CopyVV := ⟨⟨1020, 510⟩, ⟨1022, 510⟩, ⟨2, 2⟩⟩
    (fresh []).halted = none ∧ o.size.nonzero = true ∧ InGrid o.src o.size ∧ InGrid o.dst o.size ∧
    o.src.x.toNat + o.size.w.toNat ≤ o.dst.x.toNat := by decide

theorem witness_TransferHeaders : (⟨1, 1⟩ : SizeWH).nonzero = true := by decide

/-- Two pixels left, and one; the first place off the grid, and the second. -/
theorem witness_DataWordStores :
    let s := { fresh [] with xferIn := some ⟨1022, 510, 2, 2, 2⟩ }
    s.halted = none ∧ s.xferIn = some ⟨1022, 510, 2, 2, 2⟩ ∧ 2 < (2#16).toNat * (2#16).toNat ∧
    PairOnGrid ⟨1022, 510, 2, 2, 2⟩ ∧ PairOnGrid ⟨1022, 510, 2, 2, 3⟩ ∧
    ¬ OnGrid (xferAt ⟨0, 511, 1, 2, 1⟩ 1) ∧ 1 < (1#16).toNat * (2#16).toNat ∧
    OnGrid (xferAt ⟨0, 511, 1, 2, 0⟩ 0) ∧ ¬ OnGrid (xferAt ⟨0, 511, 1, 2, 0⟩ 1) := by decide

/-- V46.3 and V46.9 together: the second place of the word is off the grid, the first pixel stays. -/
theorem test_data_fault :
    let t := gp0 0x22221111 { State.reset with dec := .dataIn 1, xferIn := some ⟨1023, 0, 2, 1, 0⟩ }
    t.halted = some (.vramAddressOutOfRange 1024 0) ∧ t.vram = [(1023, ⟨widen 0x1111, 0x1111⟩)] := by decide +kernel

/-- Both mask settings off; and the mask test on, over a rectangle without a protected pixel. -/
theorem witness_RoundTrip :
    let m := { rowOf [0x7FFF] with st := { State.reset.st with checkMask := true } }
    (AtRest s1 ∧ s1.dec = .idle ∧ s1.st.setMask = false ∧ s1.st.checkMask = false ∧
      (⟨3, 1⟩ : SizeWH).nonzero = true ∧ InGrid ⟨1021, 511⟩ ⟨3, 1⟩ ∧
      [0x22221111#32, 0xFFFF3333].length = dataWords ⟨3, 1⟩) ∧
    AtRest m ∧ m.dec = .idle ∧ m.st.setMask = false ∧ m.st.checkMask = true ∧ InGrid ⟨0, 0⟩ ⟨1, 1⟩ ∧
    ∀ x y : Nat, InBlock 0 0 1 1 x y → (px m x y).p15.getLsbD 15 = false := by
  refine ⟨⟨s1_atRest, rfl, rfl, rfl, rfl, by decide, rfl⟩,
    ⟨rfl, rfl, rfl, rfl, rfl, (by intro t h; cases h), by decide, by decide⟩, rfl, rfl, rfl, by decide, fun x y h => ?_⟩
  obtain ⟨rfl, rfl⟩ : x = 0 ∧ y = 0 := by simp only [InBlock] at h; omega
  decide

theorem witness_UntexturedRectangles : s1.halted = none := rfl

/-- The last page and CLUT that fit, at each depth. -/
theorem witness_TexturedRectangles :
    s1.halted = none ∧ (rectAttr s1 ⟨0, 0⟩ false).fits ∧ TexAttr.fits ⟨1008, 511, 960, 256, 0, true⟩ ∧
    TexAttr.fits ⟨768, 511, 896, 256, 1, true⟩ ∧ TexAttr.fits ⟨0, 0, 768, 256, 2, true⟩ ∧
    TexAttr.fits ⟨0, 0, 768, 256, 3, true⟩ := by
  refine ⟨rfl, ?_, ?_, ?_, ?_, ?_⟩ <;> simp [TexAttr.fits, rectAttr, s1, State.reset, Status.reset]

/-- Outside the area; inside it with a texel; inside it with none in the grid; over a protected pixel. -/
theorem witness_TexturedPixel :
    let s := { s1 with st := { s1.st with texPageX := 15 } }
    let m := { rowOf [0x8000] with
      st := { s1.st with checkMask := true }, env := { s1.env with areaRight := 1, areaBottom := 1 } }
    s1.halted = none ∧ ¬ InArea s1.env (screenX s1 ⟨320, 0⟩) (screenY s1 ⟨320, 0⟩) ∧
    InArea s1.env (screenX s1 ⟨319, 239⟩) (screenY s1 ⟨319, 239⟩) ∧
    ¬ (s1.st.checkMask = true ∧ (px s1 319 239).c24.m = true) ∧
    (texel s1 (rectAttr s1 ⟨0, 0⟩ true) 0 0).toOption = some ⟨widen 0xA210, 0xA210⟩ ∧
    (match texel s (rectAttr s ⟨0, 0⟩ true) 64 0 with | .error e => e = (1024, 0) | .ok _ => False) ∧
    m.halted = none ∧ InArea m.env (screenX m ⟨0, 0⟩) (screenY m ⟨0, 0⟩) ∧ m.st.checkMask = true ∧
    (px m 0 0).c24.m = true := by
  refine ⟨rfl, by decide, by decide, by decide, by decide +kernel, rfl, rfl, by decide, rfl, by decide⟩

theorem witness_UntexturedPolygons : s1.halted = none := rfl

theorem witness_TexturedPolygons :
    s1.halted = none ∧ (polyAttr ⟨63, 511⟩ ⟨15, 1, 0⟩ false).fits ∧ (polyAttr ⟨48, 511⟩ ⟨14, 1, 1⟩ false).fits ∧
    (polyAttr ⟨0, 0⟩ ⟨12, 1, 2⟩ true).fits := by
  refine ⟨rfl, ?_, ?_, ?_⟩ <;> simp [TexAttr.fits, polyAttr]

/-- Each way to be flat: two vertices equal, or three on one line after the clamp. -/
theorem witness_ZeroAreaDrawsNothing :
    (⟨1, 1⟩ : Vertex) = ⟨1, 1⟩ ∧
    (let p0 := clampVertex s1.env (vert s1 ⟨1, 1⟩ 0 0 ⟨0, 0, 0⟩)
     let p1 := clampVertex s1.env (vert s1 ⟨3, 3⟩ 0 0 ⟨0, 0, 0⟩)
     let p2 := clampVertex s1.env (vert s1 ⟨5, 5⟩ 0 0 ⟨0, 0, 0⟩)
     (p1.x - p0.x) * (p2.y - p0.y) = (p1.y - p0.y) * (p2.x - p0.x)) := by decide

/-- A vertex at these coordinates. -/
def at' (x y : Int) : PVertex := ⟨x, y, 0, 0, ⟨0, 0, 0⟩⟩

theorem witness_SharedEdgeOnce :
    (windTri (at' 0 0) (at' 4 0) (at' 0 4)).isSome = true ∧ (windTri (at' 4 0) (at' 0 4) (at' 4 4)).isSome = true ∧
    orient (at' 4 0) (at' 0 4) 0 0 * orient (at' 4 0) (at' 0 4) 4 4 < 0 ∧
    orient (at' 4 0) (at' 0 4) 2 2 = 0 ∧ ((2 : Int) - 4) * (2 - 0) + (2 - 0) * (2 - 4) < 0 := by decide

theorem witness_CoverageInsideBox :
    windTri (at' 0 0) (at' 4 0) (at' 0 4) = some ⟨at' 0 0, at' 4 0, at' 0 4, 16⟩ ∧
    covers ⟨at' 0 0, at' 4 0, at' 0 4, 16⟩ 3 0 = true := by decide

theorem witness_InterpolationInRange :
    windTri (at' 0 0) (at' 0 4) (at' 4 0) = some ⟨at' 0 0, at' 4 0, at' 0 4, 16⟩ ∧
    covers ⟨at' 0 0, at' 4 0, at' 0 4, 16⟩ 0 3 = true := by decide

theorem witness_BoxNeverRejected :
    wound s1 (at' 0 0) (at' 4 0) (at' 0 4) = some ⟨at' 0 0, at' 4 0, at' 0 4, 16⟩ := by decide

/-- The longest spans drawn and the shortest rejected; a pixel of the line of R306 in the area, and one off it. -/
theorem witness_SingleLines :
    s1.halted = none ∧ (lineDx ⟨0, 0⟩ ⟨0x3FF, 0x1FF⟩).natAbs ≤ 0x3FF ∧ (lineDy ⟨0, 0⟩ ⟨0x3FF, 0x1FF⟩).natAbs ≤ 0x1FF ∧
    (lineDx ⟨0x7FF, 0⟩ ⟨0x3FF, 0⟩).natAbs > 0x3FF ∧ (lineDy ⟨0, 0⟩ ⟨0, 0x200⟩).natAbs > 0x1FF ∧
    5 ≤ lineLen ⟨1, 1⟩ ⟨6, 3⟩ ∧ linePoint s1 ⟨1, 1⟩ ⟨6, 3⟩ 5 = (((6 : Nat) : Int), ((3 : Nat) : Int)) ∧
    InArea s1.env (6 : Nat) (3 : Nat) ∧ (∀ i, i ≤ lineLen ⟨1, 1⟩ ⟨6, 3⟩ → linePoint s1 ⟨1, 1⟩ ⟨6, 3⟩ i ≠ (0, 0)) := by
  decide +kernel

theorem witness_DrawingFrame :
    Draws (.rectT16SR ⟨⟨0, 0, 0⟩, ⟨0, 0⟩, ⟨0, 0⟩, ⟨0, 0⟩⟩) ∧ ¬ InArea s1.env (320 : Nat) (0 : Nat) ∧
    ¬ InBlock 10 10 4 4 (14 : Nat) (10 : Nat) := by
  refine ⟨⟨rfl, by decide, by decide, rfl⟩, by decide, by decide⟩

theorem witness_EmptyAreaDrawsNothing :
    Draws (.polyF3 ⟨⟨0, 0, 0⟩, ⟨0, 0⟩, ⟨4, 0⟩, ⟨0, 4⟩⟩) ∧
    State.reset.env.areaRight.toNat ≤ State.reset.env.areaLeft.toNat :=
  ⟨⟨rfl, by decide, by decide, rfl⟩, by decide⟩

theorem witness_TransparentTexelSkipped :
    let s := rowOf [0x0000]
    (sample s (texelCoord s.env.preMaskX s.env.postMaskX 256) (texelCoord s.env.preMaskY s.env.postMaskY 0)
      ⟨0, 0, 0, 0, 2, false⟩).toOption = some ⟨widen 0, 0⟩ ∧ (⟨widen 0, 0⟩ : Pixel).p15 = 0#16 := by decide +kernel

theorem witness_FourBitNeverFaults : (⟨15, 1, 0⟩ : Page).depth = 0#2 ∧ State.reset.st.texDepth = 0#2 := by decide

theorem witness_BurstEqualsWrites :
    AtRest s1 ∧ [0x1F000000#32, 0xE6000003] ≠ [] ∧
    ∃ t, dmaBlock [0x1F000000, 0xE6000003] s1 = .next t ∧ t.halted = none :=
  ⟨s1_atRest, by decide, _, rfl, rfl⟩

theorem witness_DmaEventsHold :
    let s := { fresh [.dmaBlock [0], .dmaLinkedList 0, .readData, .readControl] with
      dec := .dataIn 1, xferIn := some ⟨0, 0, 2, 1, 0⟩, inByCpu := true }
    s.halted = none ∧ s.dec = .dataIn 1 ∧ s.inByCpu = true ∧
    s.events = [.dmaBlock [0], .dmaLinkedList 0] ++ .readData :: [.readControl] ∧
    (∀ d ∈ [Event.dmaBlock [0], .dmaLinkedList 0], isDma d = true) ∧ isDma .readData = false :=
  ⟨rfl, rfl, rfl, rfl, by decide, rfl⟩

theorem witness_DmaEventsHold_readback :
    let s := { fresh [.dmaBlockRead [0]] with xferOut := some ⟨0, 0, 3, 1, 2⟩, outByCpu := true }
    s.halted = none ∧ s.xferOut ≠ none ∧ s.outByCpu = true ∧ ∀ e ∈ s.events, isDma e = true := by decide

/-- Main memory that holds a header at 0 and its one payload word. -/
def listed (header : Word) : State :=
  { fresh [.dmaLinkedList 0] with mainMem := memWrite (memWrite [] 0 header) 4 0x1F000000 }

theorem witness_LinkedListStep :
    (listed 0x01FFFFFF).halted = none ∧ (listed 0x01FFFFFF).events = .dmaLinkedList 0 :: [] ∧
    dmaHeld (listed 0x01FFFFFF) = false ∧ (memRead (listed 0x01FFFFFF).mainMem 0).toNat % 2 ^ 24 = 0xFFFFFF ∧
    (memRead (listed 0x01000010).mainMem 0).toNat % 2 ^ 24 ≠ 0xFFFFFF ∧
    (∃ t, dmaBlock [memRead (listed 0x01FFFFFF).mainMem 4] { listed 0x01FFFFFF with events := [] } = .next t ∧
      t.halted = none) :=
  ⟨rfl, rfl, rfl, by decide +kernel, by decide +kernel, _, rfl, rfl⟩

theorem witness_DmaReadStores :
    (fresh []).halted = none ∧ [0, 8, 4].Pairwise (fun a b => a + 4 ≤ b ∨ b + 4 ≤ a) ∧
    (dmaBlockRead [0, 8, 4] (fresh [])).halted = none := by decide

/-- A small state of canonical form, with something to do. -/
def small : State := { rowOf [0x0005, 0x8000] with events := [.writeData 0x1F000000] }

theorem witness_StepKeepsStores : StoreInv small ∧ ∃ t, step small = .next t :=
  ⟨⟨by decide, by decide, by decide⟩, _, rfl⟩

theorem witness_StepKeepsRest : AtRest small ∧ ∃ t, step small = .next t ∧ t.halted = none :=
  ⟨⟨rfl, rfl, rfl, rfl, rfl, (by intro t h; cases h), by decide, by decide⟩, _, rfl, rfl⟩

end Sys2Proof.Tests
end

section

open Sys2Proof Sys2Proof.Machine Sys2Proof.Claims

/-! ## The block at rest (O60) -/

namespace Sys2Proof

/-! ### What the decoder answers -/

theorem buildGp0_some {op : BitVec 8} {ws : List Word} {i : Instr} (h : buildGp0 op ws = some i) :
    i.channel = .gp0 ∧ i.opcode = op := by
  unfold buildGp0 at h
  split at h <;> rename_i hop
  case h_1 | h_2 | h_4 => cases h; exact ⟨rfl, BitVec.eq_of_toNat_eq hop.symm⟩
  case h_94 => cases h
  all_goals
    obtain ⟨o, -, rfl⟩ := Option.map_eq_some_iff.mp h
    exact ⟨rfl, BitVec.eq_of_toNat_eq hop.symm⟩

theorem buildGp1_channel {w : Word} {i : Instr} (h : buildGp1 w = some i) : i.channel = .gp1 := by
  unfold buildGp1 at h
  split at h <;> cases h <;> rfl

theorem polylineOf_some {op : BitVec 8} {i : Instr} (h : polylineOf op = some i) :
    i.channel = .gp0 ∧ i.opcode = op := by
  unfold polylineOf at h
  split at h <;> rename_i hop <;> cases h
  all_goals exact ⟨rfl, BitVec.eq_of_toNat_eq hop.symm⟩

/-- An instruction read from GP0 words is a GP0 command and carries the opcode of the first word. -/
theorem decode_gp0_ok {w : Word} {ws r : List Word} {i : Instr} (h : decode .gp0 (w :: ws) = .ok (i, r)) :
    i.channel = .gp0 ∧ i.opcode = opcodeOf w := by
  simp only [decode] at h
  split at h
  · rename_i hp
    cases h
    exact polylineOf_some hp
  · split at h
    · cases h
    · split at h
      · cases h
      · split at h
        · rename_i hb
          cases h
          exact buildGp0_some hb
        · cases h

theorem decode_gp1_channel {ws r : List Word} {i : Instr} (h : decode .gp1 ws = .ok (i, r)) : i.channel = .gp1 := by
  cases ws with
  | nil => cases h
  | cons w ws =>
    simp only [decode] at h
    split at h
    · rename_i hb
      cases h
      exact buildGp1_channel hb
    · cases h

theorem decode_copyCV {w0 : Word} (h : opcodeOf w0 = 0xA0#8) (w1 w2 : Word) :
    decode .gp0 [w0, w1, w2] = .ok (.copyCV ⟨.ofWord w1, .ofWord w2⟩, []) := by
  simp only [decode, h]
  rfl

theorem gp0Words_ne_zero : ∀ op : BitVec 8, gp0Words op ≠ some 0 := by decide +kernel

namespace Machine

/-! ### Sequencing and the GP0 commands without a word count -/

/-- Sequencing that ends without a fault ran both parts. -/
theorem andThen_live_next {o : Result} {f : State → Result} {t : State} (h : andThen o f = .next t)
    (ht : t.halted = none) : ∃ s, o = .next s ∧ s.halted = none ∧ f s = .next t := by
  rcases andThen_next h with ⟨-, hdead⟩ | ⟨s, ho, hlive, hf⟩
  · simp [(live_iff t).mpr ht] at hdead
  · exact ⟨s, ho, (live_iff s).mp hlive, hf⟩

/-- The meaning of a polyline opcode (R322). -/
theorem exec_polyline {op : BitVec 8} {i : Instr} (h : polylineOf op = some i) (s : State) :
    exec i s = .next (polylineUnsupported op s) := by
  obtain ⟨-, rfl⟩ := polylineOf_some h
  unfold polylineOf at h
  split at h <;> cases h <;> rfl

/-! ### The drawing commands -/

/-- A drawing command paints inside the drawing area. -/
theorem exec_draws_painted {i : Instr} (hd : Draws i) {s t : State} (h : exec i s = .next t) :
    Painted (Area s.env) s t := by
  cases i with
  | polyF3 | polyF3At21 | polyF3S | polyF3SAt23 | polyFT3 | polyFT3R | polyFT3S | polyFT3SR | polyG3 | polyG3At31
  | polyG3S | polyG3SAt33 | polyGT3 | polyGT3R | polyGT3S | polyGT3SR =>
    cases h; exact triangle_painted ..
  | polyF4 | polyF4At29 | polyF4S | polyF4SAt2b | polyFT4 | polyFT4R | polyFT4S | polyFT4SR | polyG4 | polyG4At39
  | polyG4S | polyG4SAt3b | polyGT4 | polyGT4R | polyGT4S | polyGT4SR =>
    cases h; exact quad_painted ..
  | lineF | lineFAt41 | lineFS | lineFSAt43 | lineFAt44 | lineFAt45 | lineFSAt46 | lineFSAt47 | lineG | lineGAt51
  | lineGS | lineGSAt53 | lineGAt54 | lineGAt55 | lineGSAt56 | lineGSAt57 =>
    cases h; exact line_painted ..
  | rectV | rectVAt61 | rectVS | rectVSAt63 | rectTV | rectTVR | rectTVS | rectTVSR | rect1 | rect1At69 | rect1S
  | rect1SAt6b | rectT1 | rectT1R | rectT1S | rectT1SR | rect8 | rect8At71 | rect8S | rect8SAt73 | rectT8 | rectT8R
  | rectT8S | rectT8SR | rect16 | rect16At79 | rect16S | rect16SAt7b | rectT16 | rectT16R | rectT16S | rectT16SR =>
    cases h; exact rect_painted ..
  | _ => simp [Draws, Instr.channel, Instr.opcode, isPolyline] at hd

theorem Painted.eq_of_empty {A : Int → Int → Prop} (hA : ∀ x y, ¬ A x y) {s t : State} (h : Painted A s t) :
    t = s := by
  cases h with
  | refl => rfl
  | step _ ha _ => exact absurd ha (hA _ _)

theorem inArea_of_empty {e : DrawEnv}
    (h : e.areaRight.toNat ≤ e.areaLeft.toNat ∨ e.areaBottom.toNat ≤ e.areaTop.toNat) (x y : Int) :
    ¬ Area e x y := by
  simp only [Area, inArea, decide_eq_true_eq]
  omega

/-! ### Transfer cursors (R442, R448) -/

/-- The cursor past one pixel, if one is left. -/
def Xfer.pastPixel (t : Xfer) : Xfer := if t.n ≥ xferTotal t then t else { t with n := t.n + 1 }

/-- The cursor, none once every pixel has been moved. -/
def Xfer.unfinished (t : Xfer) : Option Xfer := if t.n = xferTotal t then none else some t

/-- The cursor after one word, which carries two pixels. -/
def Xfer.pastWord (t : Xfer) : Option Xfer := t.pastPixel.pastPixel.unfinished

theorem Xfer.pastPixel_of_lt {t : Xfer} (h : t.n < xferTotal t) : t.pastPixel = { t with n := t.n + 1 } := by
  simp [Xfer.pastPixel, Nat.not_le.mpr h]

theorem Xfer.pastPixel_of_le {t : Xfer} (h : xferTotal t ≤ t.n) : t.pastPixel = t := by
  simp [Xfer.pastPixel, h]

theorem Xfer.pastPixel_n_le {t : Xfer} (h : t.n ≤ xferTotal t) : t.pastPixel.n ≤ xferTotal t.pastPixel := by
  by_cases hn : t.n < xferTotal t
  · rw [Xfer.pastPixel_of_lt hn]
    exact hn
  · rwa [Xfer.pastPixel_of_le (Nat.not_lt.mp hn)]

/-- A cursor with a pixel left is finished by the next word, or stands two pixels further. -/
theorem Xfer.pastWord_of_lt {t : Xfer} (h : t.n < xferTotal t) :
    t.pastWord = if xferTotal t ≤ t.n + 2 then none else some { t with n := t.n + 2 } := by
  have total (m : Nat) : xferTotal { t with n := m } = xferTotal t := rfl
  rw [Xfer.pastWord, Xfer.pastPixel_of_lt h]
  by_cases hl : t.n + 1 < xferTotal t
  · have hiff : t.n + 2 = xferTotal t ↔ xferTotal t ≤ t.n + 2 := by omega
    rw [Xfer.pastPixel_of_lt hl]
    simp [Xfer.unfinished, total, hiff]
  · rw [Xfer.pastPixel_of_le (Nat.not_lt.mp hl), Xfer.unfinished, total, if_pos (show t.n + 1 = _ by omega),
      if_pos (by omega)]

/-! ### What a job of the queue does to the block -/

/-- The ready bits, the readback cursor and the counters as `AtRest` wants them; the parts of `AtRest` that hold
inside an event too. -/
structure PortsInv (s : State) : Prop where
  sendBit : s.st.readySend = s.xferOut.isSome
  dmaBit : s.st.readyDma = true
  cursorOut : ∀ t, s.xferOut = some t → t.n < xferTotal t
  cycles : s.tim.videoCycles < 3413
  lines : s.tim.scanline < 314

/-- `t` comes from `s` by a job that leaves the decoder and the queue alone and the CPU to VRAM cursor at `x`. -/
structure JobEffect (x : Option Xfer) (s t : State) : Prop where
  dec : t.dec = s.dec
  queue : t.queue = s.queue
  cursor : t.xferIn = x
  ports : PortsInv s → PortsInv t

theorem JobEffect.trans {x y : Option Xfer} {s t u : State} (h : JobEffect x s t) (h' : JobEffect y t u) :
    JobEffect y s u :=
  ⟨h'.dec.trans h.dec, h'.queue.trans h.queue, h'.cursor, fun hp => h'.ports (h.ports hp)⟩

theorem OnlyVram.jobEffect {s t : State} (h : OnlyVram s t) : JobEffect s.xferIn s t := by
  rw [h]
  exact ⟨rfl, rfl, rfl, fun hp => { hp with }⟩

theorem putPixel_effect (p : P15) (s : State) : JobEffect (s.xferIn.map Xfer.pastPixel) s (putPixel p s) := by
  cases hx : s.xferIn with
  | none => simpa [putPixel, hx] using (OnlyVram.refl s).jobEffect
  | some t =>
    have advance : JobEffect (some t.pastPixel) s { s with xferIn := some t.pastPixel } :=
      ⟨rfl, rfl, rfl, fun hp => { hp with }⟩
    by_cases hn : t.n < xferTotal t
    · have written : OnlyVram { s with xferIn := some t.pastPixel } (putPixel p s) := by
        rw [putPixel, hx, Xfer.pastPixel_of_lt hn]
        simp only [ge_iff_le, Nat.not_le.mpr hn, if_false]
        split
        · exact OnlyVram.raise _ _
        · split
          · exact OnlyVram.refl _
          · exact OnlyVram.setPix15 ..
      exact advance.trans written.jobEffect
    · have hs : JobEffect s.xferIn s s := (OnlyVram.refl s).jobEffect
      simpa [putPixel, hx, Xfer.pastPixel_of_le (Nat.not_lt.mp hn), Nat.not_lt.mp hn] using hs

theorem endIn_effect (s : State) : JobEffect (s.xferIn.bind Xfer.unfinished) s (endIn s) := by
  have hs : JobEffect s.xferIn s s := (OnlyVram.refl s).jobEffect
  cases hx : s.xferIn with
  | none => simpa [endIn, hx] using hs
  | some t =>
    by_cases hn : t.n = xferTotal t
    · simp only [endIn, hx, Option.bind, Xfer.unfinished, if_pos hn]
      exact ⟨rfl, rfl, rfl, fun hp => { hp with }⟩
    · simpa [endIn, hx, Xfer.unfinished, hn] using hs

/-- A data word that raises no fault moves the cursor by one word. -/
theorem dataJob_effect {d : Word} {s : State} (h : (dataJob d s).halted = none) :
    JobEffect (s.xferIn.bind Xfer.pastWord) s (dataJob d s) := by
  have first := putPixel_effect (bits d 0 16) s
  have second := putPixel_effect (bits d 16 16) (putPixel (bits d 0 16) s)
  have last := endIn_effect (putPixel (bits d 16 16) (putPixel (bits d 0 16) s))
  have cursor : (putPixel (bits d 16 16) (putPixel (bits d 0 16) s)).xferIn.bind Xfer.unfinished
      = s.xferIn.bind Xfer.pastWord := by
    rw [second.cursor, first.cursor]
    cases s.xferIn <;> rfl
  rw [cursor] at last
  rw [← live_iff] at h
  simp only [dataJob] at h ⊢
  split at h <;> rename_i h1
  · split at h <;> rename_i h2
    · rw [if_pos h1, if_pos h2]
      exact first.trans (second.trans last)
    · exact absurd h h2
  · exact absurd h h1

/-- The CPU to VRAM cursor after a command: COPY_CV starts one (R440). -/
def commandCursor (i : Instr) (x : Option Xfer) : Option Xfer :=
  match i with
  | .copyCV o => some (startXfer o)
  | _ => x

theorem commandCursor_of_opcode {i : Instr} (h : i.opcode ≠ 0xA0#8) (x : Option Xfer) : commandCursor i x = x := by
  unfold commandCursor
  split
  · exact absurd rfl h
  · rfl

theorem xferTotal_startXfer_pos {o : CopyXfer} (h : o.size.nonzero = true) : 0 < xferTotal (startXfer o) := by
  simp only [SizeWH.nonzero, Bool.and_eq_true, bne_iff_ne, ne_eq, ← BitVec.toNat_inj] at h
  obtain ⟨hw, hh⟩ := h
  exact Nat.mul_pos (Nat.pos_of_ne_zero hw) (Nat.pos_of_ne_zero hh)

theorem copyVramCpu_effect {o : CopyXfer} (ho : o.size.nonzero = true) (s : State) :
    JobEffect s.xferIn s (copyVramCpu o s) := by
  refine ⟨rfl, rfl, rfl, fun hp => { hp with sendBit := rfl, cursorOut := ?_ }⟩
  intro t ht
  cases ht
  exact xferTotal_startXfer_pos ho

theorem nonzero_of_no_fault {b : Bool} {op : BitVec 8} {s t : State}
    (h : (if b then t else zeroSize op s).halted = none) : b = true := by
  cases b
  · cases h
  · rfl

/-- A GP0 command that raises no fault: only the two transfer headers move a cursor (R440, R446). -/
theorem exec_gp0_effect {i : Instr} (hi : i.channel = .gp0) {s t : State} (h : exec i s = .next t)
    (ht : t.halted = none) : JobEffect (commandCursor i s.xferIn) s t := by
  cases i with
  | nop | clrCache => cases h; exact (OnlyVram.refl s).jobEffect
  | irq => cases h; exact ⟨rfl, rfl, rfl, fun hp => { hp with }⟩
  | drawMode o | texWin o | areaTL o | areaBR o | offset o | maskSet o =>
    cases h; exact ⟨rfl, rfl, rfl, fun hp => { hp with }⟩
  | polyline48 | polyline49 | polyline4a | polyline4b | polyline4c | polyline4d | polyline4e | polyline4f
  | polyline58 | polyline59 | polyline5a | polyline5b | polyline5c | polyline5d | polyline5e | polyline5f =>
    cases h; cases ht
  | fill o => cases h; exact (fillRect_painted o s).onlyVram.jobEffect
  | copyVV o =>
    cases h
    have hz := nonzero_of_no_fault ht
    rw [if_pos hz]
    exact (copyVramVram_painted o s).onlyVram.jobEffect
  | copyCV o =>
    cases h
    have hz := nonzero_of_no_fault ht
    rw [if_pos hz]
    exact ⟨rfl, rfl, rfl, fun hp => { hp with }⟩
  | copyVC o =>
    cases h
    have hz := nonzero_of_no_fault ht
    rw [if_pos hz]
    exact copyVramCpu_effect hz s
  | g1Reset | g1ClrQ | g1AckIrq | g1DispEn | g1DmaDir | g1DispStart | g1HRange | g1VRange | g1DispMode | g1GetInfo =>
    cases hi
  | _ =>
    have painted := exec_draws_painted (by simp [Draws, Instr.channel, Instr.opcode, isPolyline]) h
    exact painted.onlyVram.jobEffect

/-- The CPU to VRAM cursor after a job. -/
def cursorAfter (x : Option Xfer) (j : Job) : Option Xfer :=
  match j with
  | .data _ => x.bind Xfer.pastWord
  | .cmd ws =>
    match decode .gp0 ws with
    | .ok (i, _) => commandCursor i x
    | .error _ => x

theorem cursorAfter_data (w : Word) (x : Option Xfer) : cursorAfter x (.data w) = x.bind Xfer.pastWord := rfl

theorem runJob_effect {j : Job} {s t : State} (h : runJob j s = .next t) (ht : t.halted = none) :
    JobEffect (cursorAfter s.xferIn j) s t := by
  cases j with
  | data w => cases h; exact dataJob_effect ht
  | cmd ws =>
    cases ws with
    | nil => cases h
    | cons w ws =>
      simp only [runJob] at h
      split at h
      · rename_i i hd
        simpa only [cursorAfter, hd] using exec_gp0_effect (decode_gp0_ok hd).1 h ht
      · cases h

/-! ### Inside an event: the decoder runs ahead of the queue -/

/-- The CPU to VRAM cursor after every job of the queue. -/
def pendingCursor (s : State) : Option Xfer := s.queue.foldl cursorAfter s.xferIn

theorem pendingCursor_of_empty {s : State} (h : s.queue = []) : pendingCursor s = s.xferIn := by
  simp [pendingCursor, h]

@[simp] theorem pendingCursor_enqueue (j : Job) (s : State) :
    pendingCursor (enqueue j s) = cursorAfter (pendingCursor s) j := by
  simp [pendingCursor]

/-- `AtRest` as it holds between two jobs: the decoder fits the cursor that the queued jobs will leave. -/
structure MidEvent (s : State) : Prop where
  noFault : s.halted = none
  decoder : DecoderInv s.dec (pendingCursor s)
  ports : PortsInv s

theorem AtRest.midEvent {s : State} (h : AtRest s) : MidEvent s :=
  ⟨h.noFault, by rw [pendingCursor_of_empty h.queueEmpty]; exact h.decoder, { h with }⟩

theorem MidEvent.atRest {s : State} (h : MidEvent s) (hq : s.queue = []) : AtRest s :=
  { h.ports with
    noFault := h.noFault
    queueEmpty := hq
    decoder := by rw [← pendingCursor_of_empty hq]; exact h.decoder }

/-! ### Feeding words to the decoder (R192 to R197) -/

/-- The job of a complete command starts a copy only when the command is COPY_CV. -/
theorem cursorAfter_cmd_other {op : BitVec 8} {ws : List Word} (hh : ws.head?.map opcodeOf = some op)
    (hop : op ≠ 0xA0#8) (x : Option Xfer) : cursorAfter x (.cmd ws) = x := by
  cases ws with
  | nil => rfl
  | cons w ws =>
    have hw : opcodeOf w = op := by simpa using hh
    cases hd : decode .gp0 (w :: ws) with
    | error e => simp only [cursorAfter, hd]
    | ok r =>
      have hi : r.1.opcode ≠ 0xA0#8 := by rwa [(decode_gp0_ok hd).2, hw]
      simpa only [cursorAfter, hd] using commandCursor_of_opcode hi x

/-- The header of a CPU to VRAM copy: its size, and the cursor its job starts. -/
theorem copyCV_header {ws : List Word} (hl : ws.length = 3) (hh : ws.head?.map opcodeOf = some 0xA0#8) :
    ∃ p z, copySize 0xA0#8 ws = some z ∧ ∀ x, cursorAfter x (.cmd ws) = some (startXfer ⟨p, z⟩) := by
  match ws, hl with
  | [w0, w1, w2], _ =>
    have hw : opcodeOf w0 = 0xA0#8 := by simpa using hh
    refine ⟨.ofWord w1, .ofWord w2, rfl, fun x => ?_⟩
    simp only [cursorAfter, decode_copyCV hw]
    rfl

/-- The data phase that a header opens expects the words that carry all its pixels. -/
theorem decoderInv_dataIn_start (p : PosXY) {z : SizeWH} (hz : z.nonzero = true) :
    DecoderInv (.dataIn (dataWords z)) (some (startXfer ⟨p, z⟩)) := by
  have pos : 0 < z.w.toNat * z.h.toNat := xferTotal_startXfer_pos (o := ⟨p, z⟩) hz
  refine ⟨_, rfl, ?_, ?_⟩
  · simp only [dataWords]; omega
  · simp [dataWords, xferTotal, startXfer]

theorem complete_midEvent {op : BitVec 8} {need : Nat} {ws : List Word} {s : State} (hp : PortsInv s)
    (hc : pendingCursor s = none) (hn : gp0Words op = some need) (hl : ws.length = need)
    (hh : ws.head?.map opcodeOf = some op) (hs : s.halted = none) (ht : (complete op ws s).halted = none) :
    MidEvent (complete op ws s) := by
  have hc' : ∀ d, pendingCursor { s with dec := d } = none := fun _ => hc
  by_cases hop : op = 0xA0#8
  · subst hop
    obtain rfl : 3 = need := by simpa [gp0Words] using hn
    obtain ⟨p, z, hz, hx⟩ := copyCV_header hl hh
    simp only [complete, hz, if_true] at ht ⊢
    split at ht
    · rename_i hnz
      rw [if_pos hnz]
      refine ⟨hs, ?_, { hp with }⟩
      rw [pendingCursor_enqueue, hx]
      exact decoderInv_dataIn_start p hnz
    · cases ht
  · have idle : MidEvent (enqueue (.cmd ws) { s with dec := .idle }) := by
      refine ⟨hs, ?_, { hp with }⟩
      rw [pendingCursor_enqueue, cursorAfter_cmd_other hh hop, hc']
      rfl
    simp only [complete, if_neg hop] at ht ⊢
    split
    · exact idle
    · split
      · exact idle
      · rename_i hz hnz
        simp [hz, hnz] at ht

theorem accept_midEvent {op : BitVec 8} {need : Nat} {ws : List Word} {s : State} (hp : PortsInv s)
    (hc : pendingCursor s = none) (hn : gp0Words op = some need) (hl : ws.length ≤ need)
    (hh : ws.head?.map opcodeOf = some op) (hs : s.halted = none) (ht : (accept op need ws s).halted = none) :
    MidEvent (accept op need ws s) := by
  by_cases hlt : ws.length < need
  · rw [accept, if_pos hlt]
    exact ⟨hs, ⟨hc, hn, hlt, hh⟩, { hp with }⟩
  · rw [accept, if_neg hlt] at ht ⊢
    exact complete_midEvent hp hc hn (by omega) hh hs ht

theorem feedIdle_midEvent {w : Word} {s t : State} (h : MidEvent s) (hd : s.dec = .idle)
    (hf : feedIdle w s = .next t) (ht : t.halted = none) : MidEvent t := by
  have hc := h.decoder
  rw [hd] at hc
  unfold feedIdle at hf
  split at hf
  · rename_i i hp
    rw [exec_polyline hp] at hf
    cases hf
    cases ht
  · split at hf
    · rename_i need hn
      cases hf
      have pos : need ≠ 0 := fun h0 => gp0Words_ne_zero _ (h0 ▸ hn)
      exact accept_midEvent h.ports hc hn (by simp; omega) rfl h.noFault ht
    · cases hf
      cases ht

/-- A data word moves the expected word count and the pending cursor together. -/
theorem decoderInv_dataIn_word {rem : Nat} {x : Option Xfer} (h : DecoderInv (.dataIn rem) x) :
    DecoderInv (if rem ≤ 1 then .idle else .dataIn (rem - 1)) (x.bind Xfer.pastWord) := by
  obtain ⟨t, rfl, hpos, hrem⟩ := h
  rw [Option.bind_some, Xfer.pastWord_of_lt (by omega)]
  by_cases hlast : rem ≤ 1
  · rw [if_pos hlast, if_pos (by omega)]
    rfl
  · rw [if_neg hlast, if_neg (by omega)]
    have total : xferTotal { t with n := t.n + 2 } = xferTotal t := rfl
    exact ⟨_, rfl, by omega, by rw [total]; simp only; omega⟩

theorem feed_midEvent {w : Word} {s t : State} (h : MidEvent s) (hf : feed w s = .next t) (ht : t.halted = none) :
    MidEvent t := by
  have hdec := h.decoder
  unfold feed at hf
  split at hf <;> rename_i hd
  · cases hf
    rw [hd] at hdec
    have hword := decoderInv_dataIn_word hdec
    rw [← cursorAfter_data w, ← pendingCursor_enqueue] at hword
    exact ⟨ht, hword, { h.ports with }⟩
  · exact feedIdle_midEvent h hd hf ht
  · rename_i op need ws
    cases hf
    rw [hd] at hdec
    obtain ⟨hc, hn, hl, hh⟩ := hdec
    have hh' : (ws ++ [w]).head?.map opcodeOf = some op := by
      cases ws with
      | nil => cases hh
      | cons v vs => exact hh
    exact accept_midEvent h.ports hc hn (by simp; omega) hh' h.noFault ht

theorem feedAll_midEvent {ws : List Word} {s t : State} (h : MidEvent s) (hf : feedAll ws s = .next t)
    (ht : t.halted = none) : MidEvent t := by
  induction ws generalizing s with
  | nil => cases hf; exact h
  | cons w ws ih =>
    obtain ⟨u, hu, hlive, hrest⟩ := andThen_live_next hf ht
    exact ih (feed_midEvent h hu hlive) hrest

/-! ### Draining the queue (R205) -/

theorem runJob_midEvent {j : Job} {q : List Job} {s t : State} (h : MidEvent s) (hq : s.queue = j :: q)
    (hr : runJob j { s with queue := q } = .next t) (ht : t.halted = none) : MidEvent t ∧ t.queue = q := by
  have effect := runJob_effect hr ht
  have pending : pendingCursor t = pendingCursor s := by
    simp [pendingCursor, effect.queue, effect.cursor, hq]
  refine ⟨⟨ht, ?_, effect.ports { h.ports with }⟩, effect.queue⟩
  rw [pending, effect.dec]
  exact h.decoder

theorem drainN_atRest {n : Nat} {s t : State} (h : MidEvent s) (hn : s.queue.length ≤ n) (hd : drainN n s = .next t)
    (ht : t.halted = none) : AtRest t := by
  induction n generalizing s with
  | zero => cases hd; exact h.atRest (by simpa using hn)
  | succ n ih =>
    obtain ⟨u, hu, hlive, hrest⟩ := andThen_live_next hd ht
    unfold execStep at hu
    split at hu <;> rename_i hq
    · cases hu
      exact ih h (by simp [hq]) hrest
    · obtain ⟨hmid, hqueue⟩ := runJob_midEvent h hq hu hlive
      exact ih hmid (by simp [hq] at hn; simpa [hqueue] using hn) hrest

/-! ### The events -/

theorem settle_atRest (b : Bool) {s : State} (h : AtRest s) : AtRest (settle b s) := { h with }

theorem feedAndDrain_atRest {b : Bool} {ws : List Word} {s t : State} (h : AtRest s)
    (hf : feedAndDrain b ws s = .next t) (ht : t.halted = none) : AtRest t := by
  have cleared : AtRest (clearReadyCmd s) := { h with }
  obtain ⟨u, hu, hlive, hlast⟩ := andThen_live_next hf ht
  obtain ⟨v, hv, hlive', hdrain⟩ := andThen_live_next hu hlive
  cases hlast
  have fed : MidEvent v := feedAll_midEvent cleared.midEvent hv hlive'
  exact settle_atRest b (drainN_atRest fed le_rfl hdrain hlive)

/-- A GP1 command that raises no fault; GP1 00 also cancels a readback and clears its bit (R482). -/
theorem exec_gp1_atRest {i : Instr} (hi : i.channel = .gp1) {s t : State} (h : AtRest s) (he : exec i s = .next t)
    (ht : t.halted = none) : AtRest t := by
  cases i with
  | g1Reset =>
    cases he
    exact { h with queueEmpty := rfl, sendBit := rfl, dmaBit := rfl, cursorOut := fun _ h0 => nomatch h0 }
  | g1ClrQ => cases he; exact { h with queueEmpty := rfl }
  | g1AckIrq | g1DispEn | g1DmaDir | g1DispStart | g1HRange | g1VRange | g1GetInfo => cases he; exact { h with }
  | g1DispMode o =>
    cases he
    split at ht
    · cases ht
    · rename_i ho
      rw [if_neg ho]
      exact { h with }
  | _ => cases hi

theorem writeControl_atRest {w : Word} {s t : State} (h : AtRest s) (hw : writeControl w s = .next t)
    (ht : t.halted = none) : AtRest t := by
  unfold writeControl at hw
  split at hw
  · rename_i hd
    exact exec_gp1_atRest (decode_gp1_channel hd) h hw ht
  · cases hw
    cases ht

/-- A pixel of a readback that raises no fault moves the cursor and nothing else. -/
theorem nextPixel_live {s : State} {t : Xfer} (hx : s.xferOut = some t) (hl : live (nextPixel s).2 = true) :
    (nextPixel s).2 = { s with xferOut := some t.pastPixel } := by
  by_cases hn : t.n < xferTotal t
  · simp only [nextPixel, hx, ge_iff_le, Nat.not_le.mpr hn, if_false, Xfer.pastPixel_of_lt hn] at hl ⊢
    split at hl
    · cases hl
    · rfl
  · have hle := Nat.not_lt.mp hn
    have same : { s with xferOut := some t } = s := by rw [← hx]
    simp only [nextPixel, hx, ge_iff_le, hle, if_true, Xfer.pastPixel_of_le hle, same]

/-- A read of a running readback that raises no fault: two pixels, the latch, the end test (R448). -/
theorem latchPixels_live {s : State} {t : Xfer} (hx : s.xferOut = some t) (hl : live (latchPixels s) = true) :
    ∃ v, latchPixels s = endOut { s with xferOut := some t.pastPixel.pastPixel, gpuread := v } := by
  simp only [latchPixels, hx] at hl ⊢
  split at hl <;> rename_i h1
  · have first := nextPixel_live hx h1
    split at hl <;> rename_i h2
    · have second := nextPixel_live (s := (nextPixel s).2) (t := t.pastPixel) (by rw [first]) h2
      simp only [if_pos h1, if_pos h2]
      rw [second, first]
      exact ⟨_, rfl⟩
    · exact absurd hl h2
  · exact absurd hl h1

theorem latchPixels_atRest {s : State} (h : AtRest s) (hl : live (latchPixels s) = true) : AtRest (latchPixels s) := by
  cases hx : s.xferOut with
  | none => simpa [latchPixels, hx] using h
  | some t =>
    obtain ⟨v, hv⟩ := latchPixels_live hx hl
    have hle : t.pastPixel.pastPixel.n ≤ xferTotal t.pastPixel.pastPixel :=
      Xfer.pastPixel_n_le (Xfer.pastPixel_n_le (h.cursorOut t hx).le)
    rw [hv]
    by_cases hend : t.pastPixel.pastPixel.n = xferTotal t.pastPixel.pastPixel
    · simp only [endOut, if_pos hend]
      exact { h with sendBit := rfl, cursorOut := fun _ h0 => nomatch h0 }
    · have send : s.st.readySend = true := by rw [h.sendBit, hx]; rfl
      simp only [endOut, if_neg hend]
      refine { h with sendBit := send, cursorOut := ?_ }
      intro u hu
      cases hu
      exact lt_of_le_of_ne hle hend

theorem readData_atRest {s : State} (h : AtRest s) (ht : (readData s).halted = none) : AtRest (readData s) := by
  unfold readData at ht ⊢
  dsimp only at ht ⊢
  split at ht <;> rename_i hl
  · have latched := latchPixels_atRest h hl
    rw [if_pos hl]
    exact { latched with }
  · exact absurd ((live_iff _).mpr ht) hl

theorem dmaBlockRead_atRest {addrs : List Nat} {s : State} (h : AtRest s) (ht : (dmaBlockRead addrs s).halted = none) :
    AtRest (dmaBlockRead addrs s) := by
  induction addrs generalizing s with
  | nil => exact h
  | cons a as ih =>
    simp only [dmaBlockRead] at ht ⊢
    split at ht <;> rename_i hl
    · have latched := latchPixels_atRest h hl
      rw [if_pos hl]
      exact ih { latched with } ht
    · exact absurd ((live_iff _).mpr ht) hl

theorem dmaLink_atRest {addr : BitVec 24} {s t : State} (h : AtRest s) (hd : dmaLink addr s = .next t)
    (ht : t.halted = none) : AtRest t := by
  obtain ⟨u, hu, hlive, hlast⟩ := andThen_live_next hd ht
  have burst : AtRest u := feedAndDrain_atRest h hu hlive
  cases hlast
  split
  · exact { burst with }
  · exact { burst with }

/-- One tick ends at most one line and at most one frame, in either video mode (R511, R526). -/
theorem advance_inRange (st : Status) {cycles : Nat} {t : Timing} (hi : tickIncrement cycles < tickBound)
    (hc : t.videoCycles < 3413) (hl : t.scanline < 314) :
    (advance st cycles t).videoCycles < 3413 ∧ (advance st cycles t).scanline < 314 := by
  have hh : 3406 ≤ hTiming st.videoMode ∧ hTiming st.videoMode ≤ 3413 := by
    unfold hTiming; split <;> omega
  have hv : vTiming st.videoMode ≤ 314 := by
    unfold vTiming; split <;> omega
  simp only [tickBound] at hi
  simp only [advance]
  split
  · split
    · constructor <;> simp only <;> omega
    · constructor <;> simp only <;> omega
  · constructor <;> simp only <;> omega

theorem tick_atRest {cycles : Nat} {s t : State} (h : AtRest s) (ht : tick cycles s = .next t) : AtRest t := by
  rw [tick, drain_nil h.queueEmpty, andThen_live ((live_iff s).mpr h.noFault), tickCounters] at ht
  split at ht
  · rename_i hi
    obtain ⟨hc, hl⟩ := advance_inRange s.st hi h.cycles h.lines
    cases ht
    exact { h with cycles := hc, lines := hl }
  · cases ht

theorem runEvent_atRest {e : Event} {s t : State} (h : AtRest s) (he : runEvent e s = .next t) (ht : t.halted = none) :
    AtRest t := by
  cases e with
  | writeData w => exact feedAndDrain_atRest h he ht
  | writeControl w => exact writeControl_atRest h he ht
  | readData => cases he; exact readData_atRest h ht
  | readControl => cases he; exact { h with }
  | badAccess port width => cases he; cases ht
  | dmaBlock ws => exact feedAndDrain_atRest h he ht
  | dmaBlockRead addrs => cases he; exact dmaBlockRead_atRest h ht
  | dmaLinkedList addr => exact dmaLink_atRest h he ht
  | tick cycles => exact tick_atRest h he
  | execStep =>
    simp only [runEvent, execStep, h.queueEmpty] at he
    cases he
    exact h

/-- Everything a step with a next state can be: no enabled event, or one event of the schedule. -/
theorem step_next {s t : State} (h : step s = .next t) :
    s.halted = none ∧
      (pickEvent (dmaHeld s) s.events = none ∧ t = s ∨
        ∃ e rest, pickEvent (dmaHeld s) s.events = some (e, rest) ∧
          runEvent e { s with events := rest } = .next t) := by
  unfold step at h
  split at h <;> rename_i hs
  · cases h
  · refine ⟨hs, ?_⟩
    split at h <;> rename_i hpick
    · cases h
      exact .inl ⟨hpick, rfl⟩
    · exact .inr ⟨_, _, hpick, h⟩

end Machine
end Sys2Proof

/-- Settles O60. Inside an event the decoder runs ahead of the queue, so the invariant carried through the feeding and
the drain (`MidEvent`) relates the decoder to the cursor the queued jobs will leave; the drain ends with the queue
empty, where `MidEvent` is `AtRest`. -/
theorem stepKeepsRest : Obligations.StepKeepsRest := by
  intro s t h hstep ht
  obtain ⟨-, ⟨-, rfl⟩ | ⟨e, rest, -, he⟩⟩ := step_next hstep
  · exact h
  · have scheduled : AtRest { s with events := rest } := { h with }
    exact runEvent_atRest scheduled he ht

/-! ## The Status word and the empty drawing area (O14, O15, O49) -/

namespace Sys2Proof.Machine

/-! ### The Status word (R25, R27 to R30) -/

/-- Reading every stored field back from the packed word (R25, R27). -/
theorem unpackStatus_packStatus (st : Status) (odd free : Bool) : unpackStatus (packStatus st odd free) = st := by
  cases st
  simp [unpackStatus, packStatus, bits_or, bits_place, bits_place_ne, bits_placeBit_ne, bit_or, bit_placeBit,
    bit_placeBit_ne, bit_place_ne]

theorem unpackOddField_packStatus (st : Status) (odd free : Bool) : unpackOddField (packStatus st odd free) = odd := by
  simp [unpackOddField, packStatus, bit_or, bit_placeBit, bit_placeBit_ne, bit_place_ne]

theorem bit_packStatus_interlace (st : Status) (odd free : Bool) :
    bit (packStatus st odd free) 13 = interlaceBit st free := by
  simp [packStatus, bit_or, bit_placeBit, bit_placeBit_ne, bit_place_ne]

theorem bit_packStatus_reserved (st : Status) (odd free : Bool) :
    bit (packStatus st odd free) 14 = reservedBit := by
  simp [packStatus, bit_or, bit_placeBit, bit_placeBit_ne, bit_place_ne]

theorem bit_packStatus_dmaRequest (st : Status) (odd free : Bool) :
    bit (packStatus st odd free) 25 = dmaRequest st := by
  simp [packStatus, bit_or, bit_placeBit, bit_placeBit_ne, bit_place_ne]

/-- The data request by the four values of `dmaDir` (R30). -/
theorem dmaRequest_eq (st : Status) :
    dmaRequest st = (if st.dmaDir = 0#2 then false else if st.dmaDir = 1#2 then true
      else if st.dmaDir = 2#2 then st.readyDma else st.readySend) := by
  obtain h | h | h | h : st.dmaDir = 0#2 ∨ st.dmaDir = 1#2 ∨ st.dmaDir = 2#2 ∨ st.dmaDir = 3#2 := by
    generalize st.dmaDir = d
    revert d
    decide
  all_goals simp [dmaRequest, h]

theorem bit_eq_of_bits_eq {x y : Word} {lo n i : Nat} (h : bits x lo n = bits y lo n) (hlo : lo ≤ i)
    (hn : i < lo + n) : bit x i = bit y i := by
  have field := congrArg (fun f => f.getLsbD (i - lo)) h
  have inField : i - lo < n := by omega
  simpa only [bit, bits_getLsbD, inField, decide_true, Bool.true_and, Nat.add_sub_cancel' hlo] using field

/-- Two words with the same stored fields agree in every bit but the three computed ones (R25). -/
theorem bit_eq_of_unpack_eq {x y : Word} (hs : unpackStatus x = unpackStatus y)
    (ho : unpackOddField x = unpackOddField y) {i : Nat} (hi : i < 32) (h13 : i ≠ 13) (h14 : i ≠ 14)
    (h25 : i ≠ 25) : bit x i = bit y i := by
  match i with
  | 0 | 1 | 2 | 3 => exact bit_eq_of_bits_eq (congrArg Status.texPageX hs) (by decide) (by decide)
  | 4 => exact bit_eq_of_bits_eq (congrArg Status.texPageY hs) (by decide) (by decide)
  | 5 | 6 => exact bit_eq_of_bits_eq (congrArg Status.semiMode hs) (by decide) (by decide)
  | 7 | 8 => exact bit_eq_of_bits_eq (congrArg Status.texDepth hs) (by decide) (by decide)
  | 9 => exact congrArg Status.dither hs
  | 10 => exact congrArg Status.drawToDisplay hs
  | 11 => exact congrArg Status.setMask hs
  | 12 => exact congrArg Status.checkMask hs
  | 13 => exact absurd rfl h13
  | 14 => exact absurd rfl h14
  | 15 => exact congrArg Status.texDisable hs
  | 16 => exact congrArg Status.hres2 hs
  | 17 | 18 => exact bit_eq_of_bits_eq (congrArg Status.hres1 hs) (by decide) (by decide)
  | 19 => exact congrArg Status.vres hs
  | 20 => exact congrArg Status.videoMode hs
  | 21 => exact congrArg Status.depth24 hs
  | 22 => exact congrArg Status.vInterlace hs
  | 23 => exact congrArg Status.displayDisabled hs
  | 24 => exact congrArg Status.irq hs
  | 25 => exact absurd rfl h25
  | 26 => exact congrArg Status.readyCmd hs
  | 27 => exact congrArg Status.readySend hs
  | 28 => exact congrArg Status.readyDma hs
  | 29 | 30 => exact bit_eq_of_bits_eq (congrArg Status.dmaDir hs) (by decide) (by decide)
  | 31 => exact ho
  | n + 32 => omega

/-- The mask of the stored bits (R27). -/
theorem storedMask_getLsbD : ∀ i < 32,
    (0xFDFF9FFF#32).getLsbD i = decide (i ≠ 13 ∧ i ≠ 14 ∧ i ≠ 25) := by decide

end Sys2Proof.Machine

/-- Settles O49: the commands paint only pixels of the drawing area (R248, R304, R341), and an empty area has none. -/
theorem emptyAreaDrawsNothing : Obligations.EmptyAreaDrawsNothing := by
  intro i s hd hempty
  obtain ⟨t, ht⟩ := exec_next i s
  rw [ht, (exec_draws_painted hd ht).eq_of_empty (inArea_of_empty hempty)]

/-- Settles O14: unpacking a packed word gives the stored fields back; the computed bits are read off. -/
theorem gpustatLayout : Obligations.GpustatLayout := by
  intro st odd free g
  have hs : unpackStatus g = st := unpackStatus_packStatus st odd free
  have h13 : bit g 13 = interlaceBit st free := bit_packStatus_interlace st odd free
  have h14 : bit g 14 = false := bit_packStatus_reserved st odd free
  have h25 : bit g 25 = dmaRequest st := bit_packStatus_dmaRequest st odd free
  have h31 : bit g 31 = odd := unpackOddField_packStatus st odd free
  refine ⟨congrArg Status.texPageX hs, congrArg Status.texPageY hs, congrArg Status.semiMode hs,
    congrArg Status.texDepth hs, congrArg Status.dither hs, congrArg Status.drawToDisplay hs,
    congrArg Status.setMask hs, congrArg Status.checkMask hs, ?_, ?_, h14, congrArg Status.texDisable hs,
    congrArg Status.hres2 hs, congrArg Status.hres1 hs, congrArg Status.vres hs, congrArg Status.videoMode hs,
    congrArg Status.depth24 hs, congrArg Status.vInterlace hs, congrArg Status.displayDisabled hs,
    congrArg Status.irq hs, ?_, ?_, ?_, ?_, congrArg Status.readyCmd hs, congrArg Status.readySend hs,
    congrArg Status.readyDma hs, congrArg Status.dmaDir hs, h31⟩
  all_goals intro h; simp [h13, h25, interlaceBit, dmaRequest_eq, h]

/-- Settles O15: the packed word has the stored fields of `x`, so it agrees with `x` in every bit that is not computed,
and in the computed ones when `x` has their values. -/
theorem packUnpack : Obligations.PackUnpack := by
  intro x free y
  have stored {i : Nat} : i < 32 → i ≠ 13 → i ≠ 14 → i ≠ 25 → bit y i = bit x i :=
    bit_eq_of_unpack_eq (unpackStatus_packStatus _ _ free) (unpackOddField_packStatus _ _ free)
  refine ⟨?_, fun h13 h14 h25 => ?_⟩
  · apply BitVec.eq_of_getLsbD_eq
    intro i hi
    rw [BitVec.getLsbD_and, BitVec.getLsbD_and, storedMask_getLsbD i hi]
    by_cases hc : i ≠ 13 ∧ i ≠ 14 ∧ i ≠ 25
    · obtain ⟨n13, n14, n25⟩ := hc
      rw [show y.getLsbD i = x.getLsbD i from stored hi n13 n14 n25]
    · simp [hc]
  · apply BitVec.eq_of_getLsbD_eq
    intro i hi
    change bit y i = bit x i
    by_cases n13 : i = 13
    · subst n13
      rw [h13]
      exact bit_packStatus_interlace ..
    by_cases n14 : i = 14
    · subst n14
      rw [h14]
      exact bit_packStatus_reserved ..
    by_cases n25 : i = 25
    · subst n25
      rw [h25]
      exact (bit_packStatus_dmaRequest ..).trans (dmaRequest_eq _)
    exact stored hi n13 n14 n25

end

section

open Sys2Proof Sys2Proof.Machine Sys2Proof.Claims

/-! ## The stores (O59) -/

namespace Sys2Proof.Machine

/-! ### What keeps the stores canonical and in agreement -/

/-- Whatever leaves both stores alone keeps their invariant. -/
theorem StoreInv.of_same {s t : State} (h : StoreInv s) (hv : t.vram = s.vram) (hm : t.mainMem = s.mainMem) :
    StoreInv t := by
  refine ⟨?_, ?_, ?_⟩
  · rw [hv]; exact h.vramForm
  · rw [hv]; exact h.vramAgree
  · rw [hm]; exact h.memForm

theorem raise_storeInv {f : Fault} {s : State} (h : StoreInv s) : StoreInv (raise f s) := h.of_same rfl rfl

/-- A part of an event that answers a next state keeps the stores. -/
def KeepsStores (f : State → Result) : Prop := ∀ {s t : State}, StoreInv s → f s = .next t → StoreInv t

theorem andThen_storeInv {o : Result} {f : State → Result} {t : State} (hf : KeepsStores f)
    (ho : ∀ u, o = .next u → StoreInv u) (h : andThen o f = .next t) : StoreInv t := by
  rcases andThen_next h with ⟨hstop, -⟩ | ⟨u, hu, -, hrest⟩
  · exact ho t hstop
  · exact hf (ho u hu) hrest

/-! ### Jobs -/

/-- A command changes the stores only by painting pixels whose formats agree, faults included (R96, R97). -/
theorem exec_storeInv (i : Instr) : KeepsStores (exec i) := by
  intro s t h he
  cases i with
  | fill o => cases he; exact (fillRect_painted o s).storeInv h
  | copyVV o =>
    cases he
    split
    · exact (copyVramVram_painted o s).storeInv h
    · exact raise_storeInv h
  | copyCV o | copyVC o | g1DispMode o =>
    cases he
    split <;> exact h.of_same rfl rfl
  | nop | clrCache | irq | polyline48 | polyline49 | polyline4a | polyline4b | polyline4c | polyline4d | polyline4e
  | polyline4f | polyline58 | polyline59 | polyline5a | polyline5b | polyline5c | polyline5d | polyline5e | polyline5f
  | drawMode | texWin | areaTL | areaBR | offset | maskSet
  | g1Reset | g1ClrQ | g1AckIrq | g1DispEn | g1DmaDir | g1DispStart | g1HRange | g1VRange | g1GetInfo =>
    cases he
    exact h.of_same rfl rfl
  | _ =>
    have painted := exec_draws_painted (by simp [Draws, Instr.channel, Instr.opcode, isPolyline]) he
    exact painted.storeInv h

theorem putPixel_storeInv {p : P15} {s : State} (h : StoreInv s) : StoreInv (putPixel p s) := by
  unfold putPixel
  split
  · exact h
  · split
    · exact h
    · rename_i t _ _
      have moved : StoreInv { s with xferIn := some { t with n := t.n + 1 } } := h.of_same rfl rfl
      dsimp only
      split
      · exact raise_storeInv moved
      · split
        · exact moved
        · exact setPix15_storeInv moved

theorem endIn_storeInv {s : State} (h : StoreInv s) : StoreInv (endIn s) := by
  unfold endIn
  split
  · exact h
  · split
    · exact h.of_same rfl rfl
    · exact h

theorem dataJob_storeInv {d : Word} {s : State} (h : StoreInv s) : StoreInv (dataJob d s) := by
  have first : StoreInv (putPixel (bits d 0 16) s) := putPixel_storeInv h
  have second : StoreInv (putPixel (bits d 16 16) (putPixel (bits d 0 16) s)) := putPixel_storeInv first
  unfold dataJob
  dsimp only
  split
  · split
    · exact endIn_storeInv second
    · exact second
  · exact first

theorem runJob_storeInv (j : Job) : KeepsStores (runJob j) := by
  intro s t h hr
  cases j with
  | data w => cases hr; exact dataJob_storeInv h
  | cmd ws =>
    simp only [runJob] at hr
    split at hr
    · exact exec_storeInv _ h hr
    · cases hr

theorem execStep_storeInv : KeepsStores execStep := by
  intro s t h he
  unfold execStep at he
  split at he
  · cases he; exact h
  · rename_i q _
    have popped : StoreInv { s with queue := q } := h.of_same rfl rfl
    exact runJob_storeInv _ popped he

theorem drainN_storeInv (n : Nat) : KeepsStores (drainN n) := by
  induction n with
  | zero => intro s t h hd; cases hd; exact h
  | succ n ih =>
    intro s t h hd
    exact andThen_storeInv ih (fun _ hu => execStep_storeInv h hu) hd

theorem drain_storeInv : KeepsStores drain := fun {s} {_} h hd => drainN_storeInv s.queue.length h hd

/-! ### Feeding words -/

theorem complete_stores (op : BitVec 8) (ws : List Word) (s : State) :
    (complete op ws s).vram = s.vram ∧ (complete op ws s).mainMem = s.mainMem := by
  unfold complete
  dsimp only
  split
  · exact ⟨rfl, rfl⟩
  · split
    · split <;> exact ⟨rfl, rfl⟩
    · exact ⟨rfl, rfl⟩

theorem accept_storeInv {op : BitVec 8} {need : Nat} {ws : List Word} {s : State} (h : StoreInv s) :
    StoreInv (accept op need ws s) := by
  unfold accept
  split
  · exact h.of_same rfl rfl
  · obtain ⟨hv, hm⟩ := complete_stores op ws s
    exact h.of_same hv hm

theorem feed_storeInv (w : Word) : KeepsStores (feed w) := by
  intro s t h hf
  unfold feed at hf
  split at hf
  · cases hf; exact h.of_same rfl rfl
  · unfold feedIdle at hf
    split at hf
    · exact exec_storeInv _ h hf
    · split at hf <;> cases hf
      · exact accept_storeInv h
      · exact raise_storeInv h
  · cases hf; exact accept_storeInv h

theorem feedAll_storeInv (ws : List Word) : KeepsStores (feedAll ws) := by
  induction ws with
  | nil => intro s t h hf; cases hf; exact h
  | cons w ws ih =>
    intro s t h hf
    exact andThen_storeInv ih (fun _ hu => feed_storeInv w h hu) hf

/-! ### The events -/

theorem feedAndDrain_storeInv (byCpu : Bool) (ws : List Word) : KeepsStores (feedAndDrain byCpu ws) := by
  intro s t h hf
  have settled : KeepsStores fun t => .next (settle byCpu t) := by
    intro u v hu hv
    cases hv
    exact hu.of_same rfl rfl
  have cleared : StoreInv (clearReadyCmd s) := h.of_same rfl rfl
  refine andThen_storeInv settled (fun u hu => ?_) hf
  exact andThen_storeInv drain_storeInv (fun _ hv => feedAll_storeInv ws cleared hv) hu

theorem writeControl_storeInv (w : Word) : KeepsStores (writeControl w) := by
  intro s t h hw
  unfold writeControl at hw
  split at hw
  · exact exec_storeInv _ h hw
  · cases hw; exact raise_storeInv h

/-- `t` has the stores and the outputs of `s`. -/
structure StoresKept (s t : State) : Prop where
  vram : t.vram = s.vram
  mainMem : t.mainMem = s.mainMem
  outputs : t.outputs = s.outputs

theorem StoresKept.trans {s t u : State} (h : StoresKept s t) (h' : StoresKept t u) : StoresKept s u :=
  ⟨h'.vram.trans h.vram, h'.mainMem.trans h.mainMem, h'.outputs.trans h.outputs⟩

theorem nextPixel_kept (s : State) : StoresKept s (nextPixel s).2 := by
  unfold nextPixel
  split
  · exact ⟨rfl, rfl, rfl⟩
  · split
    · exact ⟨rfl, rfl, rfl⟩
    · dsimp only
      split <;> exact ⟨rfl, rfl, rfl⟩

theorem endOut_kept (s : State) : StoresKept s (endOut s) := by
  unfold endOut
  split
  · exact ⟨rfl, rfl, rfl⟩
  · split <;> exact ⟨rfl, rfl, rfl⟩

/-- Latching pixels leaves the stores and the outputs alone (R448). -/
theorem latchPixels_kept (s : State) : StoresKept s (latchPixels s) := by
  have first := nextPixel_kept s
  have both := first.trans (nextPixel_kept (nextPixel s).2)
  have latched (v : Word) : StoresKept s { (nextPixel (nextPixel s).2).2 with gpuread := v } :=
    ⟨both.vram, both.mainMem, both.outputs⟩
  unfold latchPixels
  split
  · exact ⟨rfl, rfl, rfl⟩
  · dsimp only
    split
    · split
      · exact (latched _).trans (endOut_kept _)
      · exact both
    · exact first

theorem latchPixels_storeInv {s : State} (h : StoreInv s) : StoreInv (latchPixels s) :=
  h.of_same (latchPixels_kept s).vram (latchPixels_kept s).mainMem

theorem readData_storeInv {s : State} (h : StoreInv s) : StoreInv (readData s) := by
  unfold readData
  dsimp only
  split
  · exact (latchPixels_storeInv h).of_same rfl rfl
  · exact latchPixels_storeInv h

theorem dmaBlockRead_storeInv {addrs : List Nat} {s : State} (h : StoreInv s) :
    StoreInv (dmaBlockRead addrs s) := by
  induction addrs generalizing s with
  | nil => exact h
  | cons a as ih =>
    have latched := latchPixels_storeInv h
    simp only [dmaBlockRead]
    split
    · exact ih ⟨latched.vramForm, latched.vramAgree, memWrite_wf latched.memForm a _⟩
    · exact latched

theorem dmaLink_storeInv (addr : BitVec 24) : KeepsStores (dmaLink addr) := by
  intro s t h hd
  refine andThen_storeInv ?_ (fun _ hu => feedAndDrain_storeInv false _ h hu) hd
  intro u v hu hv
  cases hv
  split <;> exact hu.of_same rfl rfl

theorem tick_storeInv (cycles : Nat) : KeepsStores (tick cycles) := by
  intro s t h ht
  refine andThen_storeInv ?_ (fun _ hu => drain_storeInv h hu) ht
  intro u v hu hv
  unfold tickCounters at hv
  split at hv <;> cases hv
  exact hu.of_same rfl rfl

theorem runEvent_storeInv (e : Event) : KeepsStores (runEvent e) := by
  intro s t h he
  cases e with
  | writeData w => exact feedAndDrain_storeInv true [w] h he
  | writeControl w => exact writeControl_storeInv w h he
  | readData => cases he; exact readData_storeInv h
  | readControl => cases he; exact h.of_same rfl rfl
  | badAccess port width => cases he; exact raise_storeInv h
  | dmaBlock ws => exact feedAndDrain_storeInv false ws h he
  | dmaBlockRead addrs => cases he; exact dmaBlockRead_storeInv h
  | dmaLinkedList addr => exact dmaLink_storeInv addr h he
  | tick cycles => exact tick_storeInv cycles h he
  | execStep => exact execStep_storeInv h he

end Sys2Proof.Machine

/-- Settles O59: commands only paint pixels whose formats agree, data words store a 15-bit value beside its wide form
(R96, R97), a DMA read writes main memory in its canonical form, and nothing else touches the stores. -/
theorem stepKeepsStores : Obligations.StepKeepsStores := by
  intro s t h hstep
  obtain ⟨-, ⟨-, rfl⟩ | ⟨e, rest, -, he⟩⟩ := step_next hstep
  · exact h
  · have scheduled : StoreInv { s with events := rest } := h.of_same rfl rfl
    exact runEvent_storeInv e scheduled he

end

section

open Sys2Proof Sys2Proof.Machine Sys2Proof.Claims

/-! ## Port events, held DMA events and linked lists (O10, O12, O55, O56) -/

namespace Sys2Proof.Machine

/-! ### The schedule while DMA events hold (R109) -/

theorem dmaHeld_of_cpuCopy {s : State}
    (h : (∃ rem, s.dec = .dataIn rem ∧ s.inByCpu = true) ∨ (s.xferOut ≠ none ∧ s.outByCpu = true)) :
    dmaHeld s = true := by
  rcases h with ⟨rem, hd, hin⟩ | ⟨hx, hout⟩
  · simp [dmaHeld, inDataPhase, hd, hin]
  · simp [dmaHeld, Option.isSome_iff_ne_none.mpr hx, hout]

theorem pickEvent_held_none {es : List Event} (h : ∀ e ∈ es, isDma e = true) : pickEvent true es = none := by
  induction es with
  | nil => rfl
  | cons e es ih =>
    have he : isDma e = true := h e (by simp)
    simp [pickEvent, he, ih fun e' he' => h e' (by simp [he'])]

theorem pickEvent_held_first {ds : List Event} {e : Event} {rest : List Event} (hds : ∀ d ∈ ds, isDma d = true)
    (he : isDma e = false) : pickEvent true (ds ++ e :: rest) = some (e, ds ++ rest) := by
  induction ds with
  | nil => exact pickEvent_other true rest he
  | cons d ds ih =>
    have hd : isDma d = true := hds d (by simp)
    simp [pickEvent, hd, ih fun d' hd' => hds d' (by simp [hd'])]

theorem not_step_of_halted {s : State} (h : s.halted ≠ none) (t : State) : step s ≠ .next t :=
  fun hs => h (step_next hs).1

/-! ### Linked lists (R117) -/

/-- The header's top byte counts the payload words. -/
theorem linkPayload_eq (m : Memory) (a : BitVec 24) :
    linkPayload m a =
      (List.range ((memRead m a.toNat).toNat / 2 ^ 24)).map fun i => memRead m (a.toNat + 4 * (i + 1)) := by
  have count : (bits (memRead m a.toNat) 24 8).toNat = (memRead m a.toNat).toNat / 2 ^ 24 := by
    have := (memRead m a.toNat).isLt
    simp only [bits, BitVec.extractLsb'_toNat, Nat.shiftRight_eq_div_pow]
    omega
  rw [linkPayload, count]

theorem linkNext_eq (m : Memory) (a : BitVec 24) :
    linkNext m a = BitVec.ofNat 24 ((memRead m a.toNat).toNat % 2 ^ 24) := by
  apply BitVec.eq_of_toNat_eq
  simp [linkNext, bits, BitVec.extractLsb'_toNat]

theorem linkNext_eq_last (m : Memory) (a : BitVec 24) :
    linkNext m a = 0xFFFFFF#24 ↔ (memRead m a.toNat).toNat % 2 ^ 24 = 0xFFFFFF := by
  rw [linkNext_eq, ← BitVec.toNat_inj, BitVec.toNat_ofNat, Nat.mod_mod]
  rfl

end Sys2Proof.Machine

/-- Settles O10: the event is one `raise` (R103). -/
theorem misalignedAccessRaises : Obligations.MisalignedAccessRaises := by
  intro s p n rest hs he
  rw [step_event hs he (.inl rfl)]
  rfl

/-- Settles O12: a halted block has no step, and a read only shows the packed word (R105). -/
theorem readControlEvent : Obligations.ReadControlEvent := by
  refine ⟨fun s hs t => not_step_of_halted hs t, fun s rest hs he => ?_⟩
  rw [step_event hs he (.inl rfl)]
  rfl

/-- Settles O55: held events are passed over, so the first other one runs. -/
theorem dmaEventsHold : Obligations.DmaEventsHold := by
  intro s hs hcopy
  have held := dmaHeld_of_cpuCopy hcopy
  refine ⟨fun hall => ?_, fun ds e rest hes hds he => ?_⟩
  · simp [step, hs, held, pickEvent_held_none hall]
  · simp [step, hs, held, hes, pickEvent_held_first hds he]

/-- Settles O56: the step is `dmaLink` with the header's two fields written as numbers (R117, R118). -/
theorem linkedListStep : Obligations.LinkedListStep := by
  intro s a rest hs he hheld hdr ws t hburst ht
  have link : step s = .next (if linkNext s.mainMem a = 0xFFFFFF#24 then emit .dmaDone t
      else { t with events := .dmaLinkedList (linkNext s.mainMem a) :: t.events }) := by
    rw [step_event hs he (.inr hheld)]
    simp only [runEvent, dmaLink, linkPayload_eq]
    rw [show dmaBlock _ _ = .next t from hburst, andThen_live ((live_iff t).mpr ht)]
  refine ⟨fun hlast => ?_, fun hmore => ?_⟩
  · rw [link, if_pos ((linkNext_eq_last _ _).mpr hlast)]
    rfl
  · rw [link, if_neg (mt (linkNext_eq_last _ _).mp hmore), linkNext_eq]

end

section

open Sys2Proof Sys2Proof.Machine Sys2Proof.Claims

/-! ## The readback (O13) -/

namespace Sys2Proof.Machine

/-! ### One pixel of a readback (R448) -/

/-- A pixel of the grid as the words of the statements read it. -/
theorem pixelAt_onGrid (s : State) {x y : Nat} (h : OnGrid (x, y)) : pixelAt s x y = .ok (px s x y) := by
  have hk : pixelNo x y = some (y * 1024 + x) := by
    obtain ⟨hx, hy⟩ := h
    unfold pixelNo
    rw [if_pos (by omega)]
    simp
  simp [pixelAt, hk, px]

theorem pixelAt_offGrid (s : State) {x y : Nat} (h : ¬ OnGrid (x, y)) :
    pixelAt s x y = .error (.vramAddressOutOfRange x y) := by
  have hk : pixelNo x y = none := by
    unfold pixelNo
    rw [if_neg (by simp only [OnGrid] at h; omega)]
  simp [pixelAt, hk]

theorem nextPixel_done {s : State} {t : Xfer} (hx : s.xferOut = some t) (hn : xferTotal t ≤ t.n) :
    nextPixel s = (0#16, s) := by
  simp [nextPixel, hx, hn]

theorem nextPixel_onGrid {s : State} {t : Xfer} (hx : s.xferOut = some t) (hn : t.n < xferTotal t)
    (hg : OnGrid (xferAt t t.n)) :
    nextPixel s =
      ((px s (xferAt t t.n).1 (xferAt t t.n).2).p15, { s with xferOut := some { t with n := t.n + 1 } }) := by
  have read : pixelAt { s with xferOut := some { t with n := t.n + 1 } } (xferX t) (xferY t) =
      .ok (px s (xferAt t t.n).1 (xferAt t t.n).2) := pixelAt_onGrid _ hg
  simp [nextPixel, hx, Nat.not_le.mpr hn, read]

/-- The cursor has passed the place that faults (R543). -/
theorem nextPixel_offGrid {s : State} {t : Xfer} (hx : s.xferOut = some t) (hn : t.n < xferTotal t)
    (hg : ¬ OnGrid (xferAt t t.n)) :
    nextPixel s =
      (0#16, { s with xferOut := some { t with n := t.n + 1 }, halted := offGrid (xferAt t t.n) }) := by
  have read : pixelAt { s with xferOut := some { t with n := t.n + 1 } } (xferX t) (xferY t) =
      .error (.vramAddressOutOfRange (xferAt t t.n).1 (xferAt t t.n).2) := pixelAt_offGrid _ hg
  simp [nextPixel, hx, Nat.not_le.mpr hn, read, raise, offGrid]

/-! ### A read of the port (R102, R448) -/

/-- Two pixels in one word, the earlier in the low half (R448). -/
theorem place_halves (hi lo : P15) : place 16 hi ||| place 0 lo = hi ++ lo := by
  apply BitVec.eq_of_getLsbD_eq
  intro i hi32
  rw [BitVec.getLsbD_or, place_getLsbD _ _ _ hi32, place_getLsbD _ _ _ hi32, BitVec.getLsbD_append]
  by_cases h : i < 16
  · simp [h, Nat.not_le.mpr h]
  · simp [h, Nat.not_lt.mp h]

section Latch

variable {s s1 s2 : State} {t : Xfer} {lo hi : P15}

theorem latchPixels_stop_first (hx : s.xferOut = some t) (h1 : nextPixel s = (lo, s1)) (hs1 : s1.halted ≠ none) :
    latchPixels s = s1 := by
  simp [latchPixels, hx, h1, live, hs1]

theorem latchPixels_stop_second (hx : s.xferOut = some t) (h1 : nextPixel s = (lo, s1)) (hs1 : s1.halted = none)
    (h2 : nextPixel s1 = (hi, s2)) (hs2 : s2.halted ≠ none) : latchPixels s = s2 := by
  simp [latchPixels, hx, h1, live, hs1, h2, hs2]

theorem latchPixels_both (hx : s.xferOut = some t) (h1 : nextPixel s = (lo, s1)) (hs1 : s1.halted = none)
    (h2 : nextPixel s1 = (hi, s2)) (hs2 : s2.halted = none) :
    latchPixels s = endOut { s2 with gpuread := hi ++ lo } := by
  simp [latchPixels, hx, h1, live, hs1, h2, hs2, place_halves]

end Latch

/-- The pixel after the next one of a readback, 0 when there is none. -/
def laterPixel (s : State) (t : Xfer) : P15 :=
  if t.n + 1 ≥ xferTotal t then 0#16 else (px s (xferAt t (t.n + 1)).1 (xferAt t (t.n + 1)).2).p15

theorem nextPixel_later (s : State) {t : Xfer} (hn : t.n < xferTotal t) (hg : PairOnGrid t) :
    nextPixel { s with xferOut := some { t with n := t.n + 1 } } =
      (laterPixel s t, { s with xferOut := some t.pastPixel.pastPixel }) := by
  rw [Xfer.pastPixel_of_lt hn, laterPixel]
  by_cases hl : t.n + 1 ≥ xferTotal t
  · rw [nextPixel_done rfl hl, if_pos hl, Xfer.pastPixel_of_le hl]
  · have hl' : t.n + 1 < xferTotal t := Nat.not_le.mp hl
    rw [nextPixel_onGrid rfl hl' (hg.2 hl'), if_neg hl, Xfer.pastPixel_of_lt hl']
    rfl

theorem endOut_of_cursor {s : State} {t : Xfer} (hx : s.xferOut = some t) :
    endOut s = { s with
      xferOut := t.unfinished
      st := { s.st with readySend := if t.unfinished.isNone then false else s.st.readySend } } := by
  by_cases h : t.n = xferTotal t
  · simp [endOut, hx, Xfer.unfinished, h]
  · have same : { s with xferOut := some t } = s := by rw [← hx]
    simp [endOut, hx, Xfer.unfinished, h, same]

theorem readData_live {s u : State} (h : latchPixels s = u) (hu : u.halted = none) :
    readData s = { u with outputs := .readData u.gpuread :: u.outputs, outByCpu := u.xferOut.isSome } := by
  subst h
  simp [readData, live, hu, emit]

theorem readData_halted {s u : State} (h : latchPixels s = u) (hu : u.halted ≠ none) : readData s = u := by
  subst h
  simp [readData, live, hu]

theorem readData_noReadback {s : State} (hs : s.halted = none) (hx : s.xferOut = none) :
    readData s = { s with outputs := .readData s.gpuread :: s.outputs, outByCpu := false } := by
  have latched : latchPixels s = s := by simp [latchPixels, hx]
  rw [readData_live latched hs, hx]
  rfl

section Readback

variable {s : State} {t : Xfer} (hs : s.halted = none) (hx : s.xferOut = some t) (hn : t.n < xferTotal t)
include hx hn

theorem readData_first_offGrid (hg : ¬ OnGrid (xferAt t t.n)) :
    readData s = { s with xferOut := some { t with n := t.n + 1 }, halted := offGrid (xferAt t t.n) } :=
  readData_halted (latchPixels_stop_first hx (nextPixel_offGrid hx hn hg) nofun) nofun

include hs

theorem readData_second_offGrid (hg : OnGrid (xferAt t t.n)) (hn' : t.n + 1 < xferTotal t)
    (hg' : ¬ OnGrid (xferAt t (t.n + 1))) :
    readData s = { s with xferOut := some { t with n := t.n + 2 }, halted := offGrid (xferAt t (t.n + 1)) } := by
  have first := nextPixel_onGrid hx hn hg
  have second := nextPixel_offGrid (s := { s with xferOut := some { t with n := t.n + 1 } }) rfl hn' hg'
  exact readData_halted (latchPixels_stop_second hx first hs second nofun) nofun

theorem readData_pair (hg : PairOnGrid t) :
    let v := laterPixel s t ++ (px s (xferAt t t.n).1 (xferAt t t.n).2).p15
    let ends := xferTotal t ≤ t.n + 2
    readData s = { s with
      gpuread := v
      outputs := .readData v :: s.outputs
      xferOut := if ends then none else some { t with n := t.n + 2 }
      st := { s.st with readySend := if ends then false else s.st.readySend }
      outByCpu := if ends then false else true } := by
  intro v ends
  have cursor : t.pastPixel.pastPixel.unfinished = if ends then none else some { t with n := t.n + 2 } :=
    Xfer.pastWord_of_lt hn
  have latched := latchPixels_both hx (nextPixel_onGrid hx hn hg.1) hs (nextPixel_later s hn hg) hs
  rw [endOut_of_cursor rfl, cursor] at latched
  rw [readData_live latched hs]
  by_cases hend : ends
  · simp only [if_pos hend]
    rfl
  · simp only [if_neg hend]
    rfl

end Readback

end Sys2Proof.Machine

/-- Settles O13: the two pixels a read latches, by whether each lies in the grid. -/
theorem readDataEvent : Obligations.ReadDataEvent := by
  intro s rest hs he
  have read : step s = .next (readData { s with events := rest }) := step_event hs he (.inl rfl)
  rw [read]
  refine ⟨fun hx => ?_, fun t hx hn => ⟨fun hg => ?_, fun hg => ?_, fun hg hn' hg' => ?_⟩⟩
  · exact congrArg _ (readData_noReadback (s := { s with events := rest }) hs hx)
  · exact congrArg _ (readData_pair (s := { s with events := rest }) hs hx hn hg)
  · exact congrArg _ (readData_first_offGrid (s := { s with events := rest }) hx hn hg)
  · exact congrArg _ (readData_second_offGrid (s := { s with events := rest }) hs hx hn hg hn' hg')

end

section

open Sys2Proof Sys2Proof.Machine Sys2Proof.Claims

/-! ## DMA reads (O57) -/

namespace Sys2Proof.Machine

/-! ### Main memory behind a DMA read (R106, R116) -/

/-- A word of memory is its four bytes. -/
theorem memRead_congr {m m' : Memory} {a : Nat} (h : ∀ j, a ≤ j → j < a + 4 → ramByte m j = ramByte m' j) :
    memRead m a = memRead m' a := by
  simp [memRead, h a, h (a + 1), h (a + 2), h (a + 3)]

/-- A word is put together from its bytes. -/
theorem place_bytes (v : Word) :
    place 24 (bits v 24 8) ||| place 16 (bits v 16 8) ||| place 8 (bits v 8 8) ||| place 0 (bits v 0 8) = v := by
  apply BitVec.eq_of_getLsbD_eq
  intro i hi
  simp only [BitVec.getLsbD_or, place_getLsbD _ _ _ hi, bits_getLsbD]
  interval_cases i <;> simp

theorem memRead_memWrite_same (m : Memory) (a : Nat) (v : Word) : memRead (memWrite m a v) a = v := by
  have b3 : ramByte (memWrite m a v) (a + 3) = bits v 24 8 := ramByte_put_self ..
  have b2 : ramByte (memWrite m a v) (a + 2) = bits v 16 8 := by
    rw [memWrite, ramByte_put_ne _ (by omega), ramByte_put_self]
  have b1 : ramByte (memWrite m a v) (a + 1) = bits v 8 8 := by
    rw [memWrite, ramByte_put_ne _ (by omega), ramByte_put_ne _ (by omega), ramByte_put_self]
  have b0 : ramByte (memWrite m a v) a = bits v 0 8 := by
    rw [memWrite, ramByte_put_ne _ (by omega), ramByte_put_ne _ (by omega), ramByte_put_ne _ (by omega),
      ramByte_put_self]
  rw [memRead, b3, b2, b1, b0, place_bytes]

/-- The state after one word of a DMA read: the word is stored, then shown. -/
def storedWord (a : Nat) (s : State) : State :=
  emit (.readData s.gpuread) { s with mainMem := memWrite s.mainMem a s.gpuread }

/-- One word of a DMA read that raises no fault. -/
theorem dmaBlockRead_cons {a : Nat} {as : List Nat} {s : State} (h : (dmaBlockRead (a :: as) s).halted = none) :
    dmaBlockRead (a :: as) s = dmaBlockRead as (storedWord a (latchPixels s)) := by
  simp only [dmaBlockRead] at h ⊢
  split
  · rfl
  · rename_i hl
    rw [if_neg hl] at h
    exact absurd ((live_iff _).mpr h) hl

/-- A byte outside the words of a DMA read keeps its value. -/
theorem dmaBlockRead_ramByte {addrs : List Nat} {s : State} (ht : (dmaBlockRead addrs s).halted = none) {j : Nat}
    (hj : ∀ a ∈ addrs, j < a ∨ a + 4 ≤ j) :
    ramByte (dmaBlockRead addrs s).mainMem j = ramByte s.mainMem j := by
  induction addrs generalizing s with
  | nil => rfl
  | cons a as ih =>
    have first := dmaBlockRead_cons ht
    rw [first] at ht ⊢
    rw [ih ht fun b hb => hj b (by simp [hb])]
    have word := ramByte_memWrite_ne (latchPixels s).mainMem a j (latchPixels s).gpuread (hj a (by simp))
    exact word.trans (by rw [(latchPixels_kept s).mainMem])

/-- Every word of a DMA read stands after its own read, and the later reads, whose words do not meet it, keep it. -/
theorem dmaBlockRead_outputs {addrs : List Nat} {s : State}
    (hpair : addrs.Pairwise fun a b => a + 4 ≤ b ∨ b + 4 ≤ a) (ht : (dmaBlockRead addrs s).halted = none) :
    (dmaBlockRead addrs s).outputs =
      (addrs.map fun a => .readData (memRead (dmaBlockRead addrs s).mainMem a)).reverse ++ s.outputs := by
  induction addrs generalizing s with
  | nil => rfl
  | cons a as ih =>
    obtain ⟨hapart, hpair'⟩ := List.pairwise_cons.mp hpair
    have first := dmaBlockRead_cons ht
    rw [first] at ht ⊢
    have kept : memRead (dmaBlockRead as (storedWord a (latchPixels s))).mainMem a = (latchPixels s).gpuread := by
      rw [memRead_congr fun j hlo hhi => dmaBlockRead_ramByte ht fun b hb => by have := hapart b hb; omega]
      exact memRead_memWrite_same _ _ _
    have shown : (storedWord a (latchPixels s)).outputs = .readData (latchPixels s).gpuread :: s.outputs := by
      rw [← (latchPixels_kept s).outputs]
      rfl
    rw [ih hpair' ht, shown, List.map_cons, kept]
    simp

end Sys2Proof.Machine

/-- Settles O57: what each read showed stands at its address, and no other byte changed. -/
theorem dmaReadStores : Obligations.DmaReadStores := by
  intro s addrs _ hpair t ht
  exact ⟨dmaBlockRead_outputs hpair ht, fun j hj => dmaBlockRead_ramByte ht hj⟩

end

section

open Sys2Proof Sys2Proof.Machine Sys2Proof.Claims

/-! ## The pixel formats (O52) -/

namespace Sys2Proof.Machine

/-- A 5-bit channel as the top five bits of an 8-bit one. -/
theorem toNat_wide (x : BitVec 5) : BitVec.toNat (w := 8) (x ++ 0#3) = x.toNat * 8 :=
  (BitVec.toNat_append x 0#3).trans (by simp [Nat.shiftLeft_eq])

theorem wide_field (p : P15) (lo : Nat) :
    (p.extractLsb' lo 5 ++ 0#3 : BitVec 8) = BitVec.ofNat 8 (p.toNat / 2 ^ lo % 32 * 8) := by
  apply BitVec.eq_of_toNat_eq
  rw [toNat_wide, BitVec.extractLsb'_toNat, BitVec.toNat_ofNat, Nat.shiftRight_eq_div_pow]
  omega

/-- Cutting a channel to its top five bits loses nothing exactly when the low three are zero. -/
theorem wide_cut (c : BitVec 8) : (c.extractLsb' 3 5 ++ 0#3 : BitVec 8) = c ↔ c.toNat % 8 = 0 := by
  have := c.isLt
  rw [← BitVec.toNat_inj, toNat_wide, BitVec.extractLsb'_toNat, Nat.shiftRight_eq_div_pow]
  omega

/-- Bit by bit, the fields of a narrowed colour (R92, R94). -/
theorem narrow_getLsbD (c : C24) (i : Nat) :
    (narrow c).getLsbD i =
      if i < 5 then (c.r.extractLsb' 3 5).getLsbD i
      else if i < 10 then (c.g.extractLsb' 3 5).getLsbD (i - 5)
      else if i < 15 then (c.b.extractLsb' 3 5).getLsbD (i - 10)
      else (BitVec.ofBool c.m).getLsbD (i - 15) := by
  have green : i - 5 < 5 ↔ i < 10 := by omega
  have blue : i - 10 < 5 ↔ i < 15 := by omega
  simp only [narrow, BitVec.getLsbD_append]
  simp only [Nat.sub_sub, Nat.reduceAdd, green, blue]

theorem narrow_mask (c : C24) : (narrow c).getLsbD 15 = c.m := by
  rw [narrow_getLsbD]
  cases c.m <;> rfl

theorem narrow_red (c : C24) : (narrow c).extractLsb' 0 5 = c.r.extractLsb' 3 5 := by
  apply BitVec.eq_of_getLsbD_eq
  intro i hi
  rw [BitVec.getLsbD_extractLsb', narrow_getLsbD, if_pos (by omega)]
  simp [hi]

theorem narrow_green (c : C24) : (narrow c).extractLsb' 5 5 = c.g.extractLsb' 3 5 := by
  apply BitVec.eq_of_getLsbD_eq
  intro i hi
  rw [BitVec.getLsbD_extractLsb', narrow_getLsbD, if_neg (by omega), if_pos (by omega), Nat.add_sub_cancel_left]
  simp [hi]

theorem narrow_blue (c : C24) : (narrow c).extractLsb' 10 5 = c.b.extractLsb' 3 5 := by
  apply BitVec.eq_of_getLsbD_eq
  intro i hi
  rw [BitVec.getLsbD_extractLsb', narrow_getLsbD, if_neg (by omega), if_neg (by omega), if_pos (by omega),
    Nat.add_sub_cancel_left]
  simp [hi]

end Sys2Proof.Machine

/-- Settles O52, channel by channel. -/
theorem narrowWiden : Obligations.NarrowWiden := by
  refine ⟨fun p => ?_, narrow_widen, fun c => ?_, rfl, rfl⟩
  · have red := wide_field p 0
    rw [pow_zero, Nat.div_one] at red
    rw [widen, red, wide_field p 5, wide_field p 10]
    rfl
  · rw [widen, narrow_mask, narrow_red, narrow_green, narrow_blue, ← wide_cut, ← wide_cut, ← wide_cut]
    cases c
    simp

end

section

open Sys2Proof Sys2Proof.Machine Sys2Proof.Claims

/-! ## The word that completes a command (O5) -/

namespace Sys2Proof

theorem polylineOf_not_wf {op : BitVec 8} {i : Instr} (h : polylineOf op = some i) : i.wf = false := by
  unfold polylineOf at h
  split at h <;> cases h <;> rfl

theorem decode_copyVV {w0 : Word} (h : opcodeOf w0 = 0x80#8) (w1 w2 w3 : Word) :
    decode .gp0 [w0, w1, w2, w3] = .ok (.copyVV ⟨.ofWord w1, .ofWord w2, .ofWord w3⟩, []) := by
  simp only [decode, h]
  rfl

theorem decode_copyVC {w0 : Word} (h : opcodeOf w0 = 0xC0#8) (w1 w2 : Word) :
    decode .gp0 [w0, w1, w2] = .ok (.copyVC ⟨.ofWord w1, .ofWord w2⟩, []) := by
  simp only [decode, h]
  rfl

/-- A single word that is a whole command and no polyline: its opcode asks for one word (R150). -/
theorem gp0Words_of_decode_one {w : Word} {i : Instr} {r : List Word} (h : decode .gp0 [w] = .ok (i, r))
    (hp : polylineOf (opcodeOf w) = none) : gp0Words (opcodeOf w) = some 1 := by
  simp only [decode, hp] at h
  split at h
  · cases h
  · rename_i need hn
    split at h
    · cases h
    · rename_i hlen
      have pos : need ≠ 0 := fun h0 => gp0Words_ne_zero _ (h0 ▸ hn)
      have one : need = 1 := by simp at hlen; omega
      rw [hn, one]

namespace Machine

theorem copySize_of_ne {op : BitVec 8} (h80 : op ≠ 0x80#8) (hA0 : op ≠ 0xA0#8) (hC0 : op ≠ 0xC0#8) (ws : List Word) :
    copySize op ws = none := by
  unfold copySize
  split
  · rename_i h; exact absurd (BitVec.eq_of_toNat_eq h) h80
  · rename_i h; exact absurd (BitVec.eq_of_toNat_eq h) hA0
  · rename_i h; exact absurd (BitVec.eq_of_toNat_eq h) hC0
  · rfl

/-- The decoder after a complete command: COPY_CV opens its data phase (R195). -/
def decAfter (i : Instr) : Dec :=
  match i with
  | .copyCV o => .dataIn (dataWords o.size)
  | _ => .idle

theorem decAfter_of_opcode {i : Instr} (h : i.opcode ≠ 0xA0#8) : decAfter i = .idle := by
  unfold decAfter
  split
  · exact absurd rfl h
  · rfl

/-- A copy of non-zero size is queued (R195). -/
theorem complete_copy {op : BitVec 8} {ws : List Word} {z : SizeWH} (hz : copySize op ws = some z)
    (hnz : z.nonzero = true) (s : State) :
    complete op ws s =
      enqueue (.cmd ws) { s with dec := if op = 0xA0#8 then .dataIn (dataWords z) else .idle } := by
  by_cases hop : op = 0xA0#8
  · subst hop
    simp [complete, hz, hnz]
  · simp [complete, hz, hnz, hop]

/-- A complete well-formed command is queued, and only COPY_CV leaves the decoder busy (R195). -/
theorem complete_wf {op : BitVec 8} {need : Nat} {ws : List Word} {i : Instr} (hn : gp0Words op = some need)
    (hl : ws.length = need) (hh : ws.head?.map opcodeOf = some op) (hd : decode .gp0 ws = .ok (i, []))
    (hwf : i.wf = true) (s : State) : complete op ws s = enqueue (.cmd ws) { s with dec := decAfter i } := by
  by_cases h80 : op = 0x80#8
  · subst h80
    obtain rfl : 4 = need := by simpa [gp0Words] using hn
    match ws, hl with
    | [w0, w1, w2, w3], _ =>
      rw [decode_copyVV (by simpa using hh)] at hd
      cases hd
      exact complete_copy rfl hwf s
  by_cases hA0 : op = 0xA0#8
  · subst hA0
    obtain rfl : 3 = need := by simpa [gp0Words] using hn
    match ws, hl with
    | [w0, w1, w2], _ =>
      rw [decode_copyCV (by simpa using hh)] at hd
      cases hd
      exact complete_copy rfl hwf s
  by_cases hC0 : op = 0xC0#8
  · subst hC0
    obtain rfl : 3 = need := by simpa [gp0Words] using hn
    match ws, hl with
    | [w0, w1, w2], _ =>
      rw [decode_copyVC (by simpa using hh)] at hd
      cases hd
      exact complete_copy rfl hwf s
  · have opcode : i.opcode = op := by
      cases ws with
      | nil => cases hh
      | cons w ws => rw [(decode_gp0_ok hd).2]; simpa using hh
    rw [decAfter_of_opcode (opcode ▸ hA0)]
    simp [complete, copySize_of_ne h80 hA0 hC0]

/-- The word that completes a well-formed command queues it (R192 to R196). -/
theorem feed_completes {s : State} {w : Word} {old : List Word} {i : Instr} (hwf : i.wf = true)
    (hdec : s.dec = .idle ∧ old = [] ∨ ∃ op need, s.dec = .collect op need old ∧ old ≠ [] ∧
      old.head?.map opcodeOf = some op ∧ gp0Words op = some need ∧ old.length + 1 = need)
    (hd : decode .gp0 (old ++ [w]) = .ok (i, [])) :
    feed w s = .next (enqueue (.cmd (old ++ [w])) { s with dec := decAfter i }) := by
  rcases hdec with ⟨hidle, rfl⟩ | ⟨op, need, hcollect, -, hh, hn, hl⟩
  · cases hp : polylineOf (opcodeOf w) with
    | some p =>
      have : i = p := by simp [decode, hp] at hd; exact hd.symm
      subst this
      simp [polylineOf_not_wf hp] at hwf
    | none =>
      have one : gp0Words (opcodeOf w) = some 1 := gp0Words_of_decode_one hd hp
      have queued := complete_wf one rfl rfl hd hwf s
      simpa [feed, hidle, feedIdle, hp, one, accept] using queued
  · have hh' : (old ++ [w]).head?.map opcodeOf = some op := by
      cases old with
      | nil => cases hh
      | cons v vs => exact hh
    have hl' : (old ++ [w]).length = need := by simpa using hl
    rw [feed, hcollect]
    simp only [accept, hl', Nat.lt_irrefl, if_false]
    rw [complete_wf hn hl' hh' hd hwf s]

/-- One word whose job is queued at once: the event is that job between the two changes of the ready bit (R100). -/
theorem writeData_cmd {w : Word} {ws : List Word} {i : Instr} {d : Dec} {s : State} (hs : s.halted = none)
    (hq : s.queue = []) (hd : decode .gp0 ws = .ok (i, []))
    (hf : feed w (clearReadyCmd s) = .next (enqueue (.cmd ws) { clearReadyCmd s with dec := d })) :
    writeData w s =
      andThen (exec i { clearReadyCmd s with dec := d }) fun t => .next (settle true t) := by
  have fed : feedAll [w] (clearReadyCmd s) = .next (enqueue (.cmd ws) { clearReadyCmd s with dec := d }) := by
    rw [feedAll, hf]
    exact andThen_pure _
  have alive : live (enqueue (.cmd ws) { clearReadyCmd s with dec := d }) = true := (live_iff _).mpr hs
  have one : (enqueue (.cmd ws) { clearReadyCmd s with dec := d }).queue = [.cmd ws] := by simp [hq]
  have popped : { enqueue (.cmd ws) { clearReadyCmd s with dec := d } with queue := [] } =
      { clearReadyCmd s with dec := d } := by
    rw [← hq]
    rfl
  rw [writeData, feedAndDrain, fed, andThen_live alive, drain_one one, runJob_cmd hd, popped]

end Machine
end Sys2Proof

/-- Settles O5: the completing word queues one job, and the drain runs it; a control word runs at once. -/
theorem stepRunsDecoded : Obligations.StepRunsDecoded := by
  refine ⟨fun s w rest old i hs hq he hwf hdec hd => ?_, fun s w rest i hs he hd => ?_⟩
  · have queued := feed_completes (s := clearReadyCmd { s with events := rest }) hwf hdec hd
    have write : step s = writeData w { s with events := rest } := step_event hs he (.inl rfl)
    rw [write, writeData_cmd (s := { s with events := rest }) hs hq hd queued]
    rfl
  · have write : step s = writeControl w { s with events := rest } := step_event hs he (.inl rfl)
    rw [write, writeControl, hd]

end

section

open Sys2Proof Sys2Proof.Machine Sys2Proof.Claims

/-! ## A burst and its words written one by one (O54)

Feeding words writes only the decoder and the queue; a GP0 job neither reads nor writes them, nor the ready bit and
`inByCpu`. So the jobs of a burst may run early, between its words. -/

namespace Sys2Proof.Machine

/-! ### What GP0 jobs do not see -/

/-- The fields that sequence the commands of GPU_DATA. -/
structure Sequencing where
  dec : Dec
  queue : List Job
  readyCmd : Bool
  inByCpu : Bool

/-- The sequencing fields of a state. -/
def State.seq (s : State) : Sequencing := ⟨s.dec, s.queue, s.st.readyCmd, s.inByCpu⟩

/-- The state with other sequencing fields. -/
def State.withSeq (s : State) (c : Sequencing) : State :=
  { s with dec := c.dec, queue := c.queue, st := { s.st with readyCmd := c.readyCmd }, inByCpu := c.inByCpu }

@[simp] theorem withSeq_checkMask (s : State) (c : Sequencing) : (s.withSeq c).st.checkMask = s.st.checkMask := rfl
@[simp] theorem withSeq_env (s : State) (c : Sequencing) : (s.withSeq c).env = s.env := rfl
@[simp] theorem withSeq_seq (s : State) (c : Sequencing) : (s.withSeq c).seq = c := rfl
@[simp] theorem withSeq_xferIn (s : State) (c : Sequencing) : (s.withSeq c).xferIn = s.xferIn := rfl
@[simp] theorem withSeq_halted (s : State) (c : Sequencing) : (s.withSeq c).halted = s.halted := rfl
@[simp] theorem live_withSeq (s : State) (c : Sequencing) : live (s.withSeq c) = live s := rfl
@[simp] theorem withSeq_withSeq (s : State) (c c' : Sequencing) : (s.withSeq c).withSeq c' = s.withSeq c' := rfl
@[simp] theorem withSeq_self (s : State) : s.withSeq s.seq = s := rfl

/-- What `f` does does not depend on the sequencing fields, and `f` keeps them. -/
def SeqBlind (f : State → State) : Prop := ∀ (s : State) (c : Sequencing), f (s.withSeq c) = (f s).withSeq c

theorem pixelAt_withSeq (s : State) (c : Sequencing) (x y : Int) : pixelAt (s.withSeq c) x y = pixelAt s x y := rfl

theorem sample_withSeq (s : State) (c : Sequencing) (u v : BitVec 8) (t : TexAttr) :
    sample (s.withSeq c) u v t = sample s u v t := by
  simp only [sample, pixelAt_withSeq]

theorem foreground_withSeq (s : State) (c : Sequencing) (base : Rgb) (tex : Option TexRef) :
    foreground (s.withSeq c) base tex = foreground s base tex := by
  simp only [foreground, sample_withSeq, withSeq_env]

theorem setPixel_blind (x y : Int) (p : Pixel) : SeqBlind (setPixel x y p) := by
  intro s c
  unfold setPixel
  split <;> rfl

theorem setPix24_blind (x y : Int) (v : C24) : SeqBlind (setPix24 x y v) := setPixel_blind x y _

theorem setPix15_blind (x y : Int) (p : P15) : SeqBlind (setPix15 x y p) := setPixel_blind x y _

theorem drawPixel_blind (x y : Int) (base : Rgb) (tex : Option TexRef) (semi : Bool) :
    SeqBlind (drawPixel x y base tex semi) := by
  intro s c
  simp only [drawPixel, pixelAt_withSeq, foreground_withSeq, withSeq_checkMask]
  cases pixelAt s x y with
  | error f => rfl
  | ok bg =>
    cases hm : s.st.checkMask && bg.c24.m with
    | true => simp [hm]
    | false =>
      cases foreground s base tex with
      | error f => simp only [hm]; rfl
      | ok r =>
        cases r with
        | none => simp [hm]
        | some r => simp only [hm]; exact setPix24_blind x y _ s c

theorem forCount_blind {n : Nat} {f : Nat → State → State} (hf : ∀ i, SeqBlind (f i)) : SeqBlind (forCount n f) := by
  intro s c
  induction n with
  | zero => rfl
  | succ n ih =>
    rw [forCount_succ, forCount_succ, ih, live_withSeq]
    split
    · exact hf n _ c
    · rfl

theorem forGrid_blind {w h : Nat} {f : Nat → Nat → State → State} (hf : ∀ i j, SeqBlind (f i j)) :
    SeqBlind (forGrid w h f) :=
  forCount_blind fun j => forCount_blind fun i => hf i j

theorem forSpan_blind {b : Span} {f : Int → Int → State → State} (hf : ∀ x y, SeqBlind (f x y)) :
    SeqBlind (forSpan b f) :=
  forGrid_blind fun _ _ => hf _ _

theorem triPixel_blind (t : Tri) (shaded : Bool) (tex : Option TexAttr) (semi : Bool) (x y : Int) :
    SeqBlind (triPixel t shaded tex semi x y) := by
  intro s c
  unfold triPixel
  split
  · exact drawPixel_blind x y _ _ _ s c
  · rfl

theorem triangle_blind (p0 p1 p2 : PVertex) (shaded : Bool) (tex : Option TexAttr) (semi : Bool) :
    SeqBlind (triangle p0 p1 p2 shaded tex semi) := by
  intro s c
  simp only [triangle, withSeq_env]
  split
  · rfl
  · split
    · rfl
    · exact forSpan_blind (fun x y => triPixel_blind _ shaded tex semi x y) s c

theorem quad_blind (p0 p1 p2 p3 : PVertex) (shaded : Bool) (tex : Option TexAttr) (semi : Bool) :
    SeqBlind (quad p0 p1 p2 p3 shaded tex semi) := by
  intro s c
  simp only [quad, triangle_blind p0 p1 p2 shaded tex semi s c, live_withSeq]
  split
  · exact triangle_blind p1 p2 p3 shaded tex semi _ c
  · rfl

theorem linePixel_blind (g : LineGeom) (semi : Bool) (i : Nat) (k : LineCursor) : SeqBlind (linePixel g semi i k) := by
  intro s c
  rw [linePixel, linePixel, withSeq_env]
  split
  · exact drawPixel_blind _ _ _ _ _ s c
  · rfl

theorem lineWalk_blind (g : LineGeom) (semi : Bool) (n i : Nat) (k : LineCursor) :
    SeqBlind (lineWalk g semi n i k) := by
  intro s c
  induction n generalizing i k s with
  | zero => rfl
  | succ n ih =>
    rw [lineWalk, lineWalk, live_withSeq]
    split
    · rw [linePixel_blind, ih]
    · rfl

theorem line_blind (a b : Vertex) (c0 c1 : Rgb) (semi : Bool) : SeqBlind (line a b c0 c1 semi) := by
  intro s c
  unfold line
  split
  · rfl
  · exact lineWalk_blind _ semi _ _ _ s c

theorem rect_blind (x0 y0 : Int) (w h : Nat) (col : Rgb) (tex : Option RectTex) (semi : Bool) :
    SeqBlind (rect x0 y0 w h col tex semi) :=
  fun s c => forSpan_blind (fun x y => drawPixel_blind x y col _ semi) s c

theorem fillRect_blind (o : Fill) : SeqBlind (fillRect o) := forGrid_blind fun _ _ => setPix24_blind _ _ _

theorem copyPixel_blind (sx sy dx dy : Int) : SeqBlind (copyPixel sx sy dx dy) := by
  intro s c
  simp only [copyPixel, pixelAt_withSeq, withSeq_checkMask]
  cases pixelAt s sx sy with
  | error f => rfl
  | ok src =>
    cases pixelAt s dx dy with
    | error f => rfl
    | ok dst =>
      cases hm : s.st.checkMask && dst.c24.m with
      | true => simp [hm]
      | false => simp only [hm]; exact setPix24_blind dx dy _ s c

theorem copyVramVram_blind (o : CopyVV) : SeqBlind (copyVramVram o) := forGrid_blind fun _ _ => copyPixel_blind _ _ _ _

/-- What `Put` does at the place of its pixel: test and write (R441, R442). -/
def storePixel (x y : Int) (p : P15) (s : State) : State :=
  match pixelAt s x y with
  | .error f => raise f s
  | .ok d => if s.st.checkMask && d.p15.getLsbD 15 then s else setPix15 x y (withSetMask s.st p) s

/-- `Put` advances the cursor, then stores. -/
theorem putPixel_of_lt {s : State} {t : Xfer} (hx : s.xferIn = some t) (hn : t.n < xferTotal t) (p : P15) :
    putPixel p s = storePixel (xferX t) (xferY t) p { s with xferIn := some { t with n := t.n + 1 } } := by
  rw [putPixel, hx]
  dsimp only
  rw [if_neg (Nat.not_le.mpr hn)]
  unfold storePixel
  cases pixelAt { s with xferIn := some { t with n := t.n + 1 } } (xferX t) (xferY t) with
  | error f => rfl
  | ok d => rfl

theorem storePixel_blind (x y : Int) (p : P15) : SeqBlind (storePixel x y p) := by
  intro s c
  have setMask : withSetMask (s.withSeq c).st p = withSetMask s.st p := rfl
  rw [storePixel, storePixel, pixelAt_withSeq, setMask, withSeq_checkMask]
  cases pixelAt s x y with
  | error f => rfl
  | ok d =>
    dsimp only
    split
    · rfl
    · exact setPix15_blind _ _ _ s c

theorem putPixel_blind (p : P15) : SeqBlind (putPixel p) := by
  intro s c
  cases hx : s.xferIn with
  | none => simp [putPixel, hx]
  | some t =>
    by_cases hn : t.n < xferTotal t
    · rw [putPixel_of_lt hx hn, putPixel_of_lt (s := s.withSeq c) hx hn]
      exact storePixel_blind _ _ p { s with xferIn := some { t with n := t.n + 1 } } c
    · simp [putPixel, hx, Nat.not_lt.mp hn]

theorem endIn_blind : SeqBlind endIn := by
  intro s c
  simp only [endIn, withSeq_xferIn]
  split
  · rfl
  · split <;> rfl

theorem dataJob_blind (d : Word) : SeqBlind (dataJob d) := by
  intro s c
  simp only [dataJob, putPixel_blind _ _ c, live_withSeq]
  split
  · split
    · exact endIn_blind _ c
    · rfl
  · rfl

/-- The next state of a result with other sequencing fields. -/
def withSeqResult (c : Sequencing) : Result → Result
  | .next t => .next (t.withSeq c)
  | .fault f => .fault f
  | .refused r => .refused r

theorem withSeqResult_of_next (c : Sequencing) (t : State) : withSeqResult c (.next t) = .next (t.withSeq c) := rfl

theorem withSeqResult_next {c : Sequencing} {o : Result} {m : State} (h : withSeqResult c o = .next m) :
    ∃ t, o = .next t ∧ t.withSeq c = m := by
  cases o with
  | next t => cases h; exact ⟨t, rfl, rfl⟩
  | fault f => cases h
  | refused r => cases h

/-- A GP0 command neither reads nor writes the sequencing fields. -/
theorem exec_gp0_withSeq {i : Instr} (hi : i.channel = .gp0) (s : State) (c : Sequencing) :
    exec i (s.withSeq c) = withSeqResult c (exec i s) := by
  cases i with
  | polyF3 | polyF3At21 | polyF3S | polyF3SAt23 | polyFT3 | polyFT3R | polyFT3S | polyFT3SR | polyG3 | polyG3At31
  | polyG3S | polyG3SAt33 | polyGT3 | polyGT3R | polyGT3S | polyGT3SR =>
    exact congrArg Host.Outcome.next (triangle_blind _ _ _ _ _ _ s c)
  | polyF4 | polyF4At29 | polyF4S | polyF4SAt2b | polyFT4 | polyFT4R | polyFT4S | polyFT4SR | polyG4 | polyG4At39
  | polyG4S | polyG4SAt3b | polyGT4 | polyGT4R | polyGT4S | polyGT4SR =>
    exact congrArg Host.Outcome.next (quad_blind _ _ _ _ _ _ _ s c)
  | lineF | lineFAt41 | lineFS | lineFSAt43 | lineFAt44 | lineFAt45 | lineFSAt46 | lineFSAt47 | lineG | lineGAt51
  | lineGS | lineGSAt53 | lineGAt54 | lineGAt55 | lineGSAt56 | lineGSAt57 =>
    exact congrArg Host.Outcome.next (line_blind _ _ _ _ _ s c)
  | rectV | rectVAt61 | rectVS | rectVSAt63 | rectTV | rectTVR | rectTVS | rectTVSR | rect1 | rect1At69 | rect1S
  | rect1SAt6b | rectT1 | rectT1R | rectT1S | rectT1SR | rect8 | rect8At71 | rect8S | rect8SAt73 | rectT8 | rectT8R
  | rectT8S | rectT8SR | rect16 | rect16At79 | rect16S | rect16SAt7b | rectT16 | rectT16R | rectT16S | rectT16SR =>
    exact congrArg Host.Outcome.next (rect_blind _ _ _ _ _ _ _ s c)
  | fill o => exact congrArg Host.Outcome.next (fillRect_blind o s c)
  | copyVV o =>
    refine congrArg Host.Outcome.next ?_
    split
    · exact copyVramVram_blind o s c
    · rfl
  | copyCV o | copyVC o =>
    refine congrArg Host.Outcome.next ?_
    split <;> rfl
  | g1Reset | g1ClrQ | g1AckIrq | g1DispEn | g1DmaDir | g1DispStart | g1HRange | g1VRange | g1DispMode | g1GetInfo =>
    cases hi
  | _ => rfl

theorem runJob_withSeq (j : Job) (s : State) (c : Sequencing) :
    runJob j (s.withSeq c) = withSeqResult c (runJob j s) := by
  cases j with
  | data w => exact congrArg Host.Outcome.next (dataJob_blind w s c)
  | cmd ws =>
    cases ws with
    | nil => rfl
    | cons w ws =>
      simp only [runJob]
      split
      · rename_i hd
        exact exec_gp0_withSeq (decode_gp0_ok hd).1 s c
      · rfl

/-- A job keeps the sequencing fields. -/
theorem runJob_seq {j : Job} {s t : State} (h : runJob j s = .next t) : t.seq = s.seq := by
  have blind := runJob_withSeq j s s.seq
  rw [withSeq_self, h] at blind
  injection blind with blind
  rw [blind, withSeq_seq]

end Sys2Proof.Machine
end

section

open Sys2Proof Sys2Proof.Machine Sys2Proof.Claims

namespace Sys2Proof.Machine

/-! ### Running the jobs of a list, and the drain -/

/-- The jobs of a list one after the other, none after a fault. -/
def runJobs : List Job → State → Result
  | [], s => .next s
  | j :: js, s => andThen (runJob j s) (runJobs js)

/-- What comes after a first part matters only where that part raised no fault. -/
theorem andThen_congr {o : Result} {f g : State → Result} (h : ∀ u, live u = true → f u = g u) :
    andThen o f = andThen o g := by
  cases o with
  | fault e => rfl
  | refused e => rfl
  | next u =>
    cases hl : live u with
    | true => rw [andThen_live hl, andThen_live hl, h u hl]
    | false => rw [andThen_dead hl, andThen_dead hl]

theorem runJobs_append (js ks : List Job) {s : State} (hs : live s = true) :
    runJobs (js ++ ks) s = andThen (runJobs js s) (runJobs ks) := by
  induction js generalizing s with
  | nil => exact (andThen_live hs _).symm
  | cons j js ih => rw [List.cons_append, runJobs, runJobs, andThen_assoc, andThen_congr fun u hu => ih hu]

theorem withSeqResult_andThen {o : Result} {f g : State → Result} {c : Sequencing}
    (h : ∀ u, o = .next u → withSeqResult c (f u) = g (u.withSeq c)) :
    withSeqResult c (andThen o f) = andThen (withSeqResult c o) g := by
  cases o with
  | fault e => rfl
  | refused e => rfl
  | next u =>
    rw [withSeqResult_of_next]
    cases hl : live u with
    | true => rw [andThen_live hl, andThen_live (s := u.withSeq c) hl, h u rfl]
    | false => rw [andThen_dead hl, andThen_dead (s := u.withSeq c) hl, withSeqResult_of_next]

theorem runJobs_withSeq (js : List Job) (s : State) (c : Sequencing) :
    runJobs js (s.withSeq c) = withSeqResult c (runJobs js s) := by
  induction js generalizing s with
  | nil => rfl
  | cons j js ih => rw [runJobs, runJobs, runJob_withSeq, withSeqResult_andThen fun u _ => (ih u).symm]

theorem execStep_cons {s : State} {j : Job} {q : List Job} (h : s.queue = j :: q) :
    execStep s = runJob j { s with queue := q } := by
  simp [execStep, h]

/-- Up to the sequencing fields, the drain runs the jobs of the queue (R205). -/
theorem drain_withSeq (s : State) (c : Sequencing) :
    withSeqResult c (drain s) = runJobs s.queue (s.withSeq c) := by
  unfold drain
  generalize hq : s.queue = q
  induction q generalizing s with
  | nil => rfl
  | cons j q ih =>
    have head : runJob j (s.withSeq c) = withSeqResult c (runJob j { s with queue := q }) :=
      runJob_withSeq j { s with queue := q } c
    rw [List.length_cons, drainN, execStep_cons hq, runJobs, head]
    exact withSeqResult_andThen fun u hu => ih u (congrArg Sequencing.queue (runJob_seq hu))

/-- A drain that raises no fault empties the queue and keeps the other sequencing fields. -/
theorem drain_seq {s t : State} (h : drain s = .next t) (ht : t.halted = none) :
    t.seq = { s.seq with queue := [] } := by
  unfold drain at h
  generalize hq : s.queue = q at h
  induction q generalizing s with
  | nil => cases h; rw [← hq]; rfl
  | cons j q ih =>
    obtain ⟨u, hu, -, hrest⟩ := andThen_live_next h ht
    rw [execStep_cons hq] at hu
    have kept : u.seq = { s.seq with queue := q } := runJob_seq hu
    rw [ih (congrArg Sequencing.queue kept) hrest, kept]

/-! ### What a word makes of the decoder and the queue -/

/-- In decoder state `d`, the word `w` leads to `d'` and enqueues `js`, whatever the rest of the block holds. -/
def FeedsWord (d : Dec) (w : Word) (d' : Dec) (js : List Job) : Prop :=
  ∀ s : State, s.dec = d → feed w s = .next { s with dec := d', queue := s.queue ++ js }

theorem accept_feeds {op : BitVec 8} {need : Nat} {ws : List Word} {s : State}
    (h : (accept op need ws s).halted = none) :
    ∃ d js, ∀ u : State, accept op need ws u = { u with dec := d, queue := u.queue ++ js } := by
  by_cases hl : ws.length < need
  · exact ⟨.collect op need ws, [], fun u => by simp [accept, hl]⟩
  · cases hz : copySize op ws with
    | none => exact ⟨.idle, [.cmd ws], fun u => by simp [accept, hl, complete, hz, enqueue]⟩
    | some z =>
      cases hnz : z.nonzero with
      | true =>
        refine ⟨if op = 0xA0#8 then .dataIn (dataWords z) else .idle, [.cmd ws], fun u => ?_⟩
        rw [accept, if_neg hl, complete_copy hz hnz]
        rfl
      | false => simp [accept, hl, complete, hz, hnz] at h

/-- A word that raises no fault. -/
theorem feed_feedsWord {w : Word} {s t : State} (h : feed w s = .next t) (ht : t.halted = none) :
    ∃ d js, FeedsWord s.dec w d js := by
  cases hd : s.dec with
  | dataIn rem =>
    refine ⟨if rem ≤ 1 then .idle else .dataIn (rem - 1), [.data w], fun u hu => ?_⟩
    rw [feed, hu]
    rfl
  | idle =>
    rw [feed, hd] at h
    simp only [feedIdle] at h
    split at h
    · rename_i hp
      rw [exec_polyline hp] at h
      cases h
      cases ht
    · rename_i hp
      split at h
      · rename_i need hn
        cases h
        obtain ⟨d, js, accepted⟩ := accept_feeds ht
        exact ⟨d, js, fun u hu => by simp [feed, hu, feedIdle, hp, hn, accepted]⟩
      · cases h
        cases ht
  | collect op need ws =>
    rw [feed, hd] at h
    cases h
    obtain ⟨d, js, accepted⟩ := accept_feeds ht
    exact ⟨d, js, fun u hu => by simp [feed, hu, accepted]⟩

/-- Words fed one after the other from decoder state `d`. -/
inductive Feeds : Dec → List Word → Dec → List Job → Prop
  | nil (d : Dec) : Feeds d [] d []
  | cons {d d' d'' : Dec} {w : Word} {ws : List Word} {js ks : List Job} (first : FeedsWord d w d' js)
      (rest : Feeds d' ws d'' ks) : Feeds d (w :: ws) d'' (js ++ ks)

theorem Feeds.feedAll {d d' : Dec} {ws : List Word} {js : List Job} (h : Feeds d ws d' js) {s : State}
    (hd : s.dec = d) (hs : s.halted = none) :
    feedAll ws s = .next { s with dec := d', queue := s.queue ++ js } := by
  induction h generalizing s with
  | nil d => subst hd; simp [Machine.feedAll]
  | cons first rest ih =>
    rw [Machine.feedAll, first s hd]
    refine (andThen_live ((live_iff _).mpr (by exact hs)) _).trans ?_
    rw [ih rfl (by exact hs), List.append_assoc]

theorem feedAll_feeds {ws : List Word} {s t : State} (h : feedAll ws s = .next t) (ht : t.halted = none) :
    ∃ d js, Feeds s.dec ws d js := by
  induction ws generalizing s with
  | nil => exact ⟨_, _, .nil _⟩
  | cons w ws ih =>
    obtain ⟨u, hu, hlive, hrest⟩ := andThen_live_next h ht
    obtain ⟨d, js, first⟩ := feed_feedsWord hu hlive
    rw [first s rfl] at hu
    cases hu
    obtain ⟨d', ks, rest⟩ := ih hrest
    exact ⟨d', js ++ ks, .cons first rest⟩

/-! ### An event that feeds words -/

/-- The state between two events, the decoder at `d`. -/
def State.between (m : State) (d : Dec) : State := m.withSeq ⟨d, [], false, false⟩

theorem settle_between (b : Bool) {t : State} {d : Dec} {r : Bool} (h : t.seq = ⟨d, [], false, r⟩) :
    settle b t = settle b (t.between d) := by
  have same : t = t.withSeq ⟨d, [], false, r⟩ := by rw [← h, withSeq_self]
  rw [same]
  rfl

section FeedAndDrain

variable {b : Bool} {ws : List Word} {s t m : State} {d : Dec} {js : List Job} (hs : s.halted = none)
  (hq : s.queue = [])
include hs hq

theorem feedAll_cleared (hf : Feeds s.dec ws d js) :
    feedAll ws (clearReadyCmd s) = .next (s.withSeq ⟨d, js, false, s.inByCpu⟩) := by
  rw [hf.feedAll (s := clearReadyCmd s) rfl hs, clearReadyCmd_queue, hq]
  rfl

/-- The words go into the decoder, their jobs run on the rest of the block (R100, R115). -/
theorem feedAndDrain_of_feeds (hf : Feeds s.dec ws d js) (hr : runJobs js s = .next m) (hm : m.halted = none) :
    feedAndDrain b ws s = .next (settle b (m.between d)) := by
  have jobs := drain_withSeq (s.withSeq ⟨d, js, false, s.inByCpu⟩) s.seq
  obtain ⟨t, hdrain, rfl⟩ := withSeqResult_next (jobs.trans hr)
  rw [feedAndDrain, feedAll_cleared hs hq hf, andThen_live (s := s.withSeq _) ((live_iff s).mpr hs), hdrain,
    andThen_live (s := t) ((live_iff t).mpr hm), settle_between b (drain_seq hdrain hm)]
  rfl

theorem feedAndDrain_feeds (h : feedAndDrain b ws s = .next t) (ht : t.halted = none) :
    ∃ d js m, Feeds s.dec ws d js ∧ runJobs js s = .next m ∧ m.halted = none ∧ t = settle b (m.between d) := by
  obtain ⟨u, hu, hlive, hlast⟩ := andThen_live_next h ht
  obtain ⟨v, hv, hlive', hdrain⟩ := andThen_live_next hu hlive
  cases hlast
  obtain ⟨d, js, hf⟩ := feedAll_feeds hv hlive'
  rw [feedAll_cleared hs hq hf] at hv
  cases hv
  have jobs := drain_withSeq (s.withSeq ⟨d, js, false, s.inByCpu⟩) s.seq
  rw [hdrain] at jobs
  exact ⟨d, js, u.withSeq s.seq, hf, jobs.symm, hlive, settle_between b (drain_seq hdrain hlive)⟩

end FeedAndDrain

/-- The words of a burst written one by one reach the state of the jobs run together. -/
theorem writeAll_of_feeds {w : Word} {ws : List Word} {s m : State} {d : Dec} {js : List Job} (hs : s.halted = none)
    (hq : s.queue = []) (hf : Feeds s.dec (w :: ws) d js) (hr : runJobs js s = .next m) (hm : m.halted = none) :
    writeAll (w :: ws) s = .next (settle true (m.between d)) := by
  induction ws generalizing w s js m with
  | nil =>
    rw [writeAll, writeData, feedAndDrain_of_feeds hs hq hf hr hm]
    exact andThen_pure _
  | cons v vs ih =>
    cases hf with
    | @cons _ d' _ _ _ js ks first rest =>
      rw [runJobs_append js ks ((live_iff s).mpr hs)] at hr
      obtain ⟨m', hr', hm', hrest⟩ := andThen_live_next hr hm
      have one : writeData w s = .next (settle true (m'.between d')) :=
        feedAndDrain_of_feeds hs hq (.cons first (.nil d')) (by rwa [List.append_nil]) hm'
      have later := runJobs_withSeq ks m' (settle true (m'.between d')).seq
      rw [hrest] at later
      rw [writeAll, one, andThen_live (s := settle true (m'.between d')) ((live_iff m').mpr hm')]
      exact (ih (s := settle true (m'.between d')) hm' rfl rest later hm :)

end Sys2Proof.Machine

/-- Settles O54: the burst's jobs, which do not see the words fed after theirs, run early. -/
theorem burstEqualsWrites : Obligations.BurstEqualsWrites := by
  intro s t ws h hne hburst ht
  obtain ⟨d, js, m, hfeeds, hrun, hm, rfl⟩ := feedAndDrain_feeds h.noFault h.queueEmpty hburst ht
  cases ws with
  | nil => exact absurd rfl hne
  | cons w ws => exact ⟨_, writeAll_of_feeds h.noFault h.queueEmpty hfeeds hrun hm, rfl⟩

end

section

open Sys2Proof Sys2Proof.Machine Sys2Proof.Claims

/-! ## Encoding and decoding (O1, O2, O3) -/

namespace Sys2Proof

/-! ### Operand bundles read back from the encoder's words (R152 to R155) -/

@[simp] theorem PolyF3.ofWords_toWords (op : BitVec 8) (o : PolyF3) : PolyF3.ofWords (o.toWords op) = some o := by
  simp [PolyF3.ofWords, PolyF3.toWords]

@[simp] theorem PolyFT3.ofWords_toWords (op : BitVec 8) (o : PolyFT3) : PolyFT3.ofWords (o.toWords op) = some o := by
  simp [PolyFT3.ofWords, PolyFT3.toWords]

@[simp] theorem PolyF4.ofWords_toWords (op : BitVec 8) (o : PolyF4) : PolyF4.ofWords (o.toWords op) = some o := by
  simp [PolyF4.ofWords, PolyF4.toWords]

@[simp] theorem PolyFT4.ofWords_toWords (op : BitVec 8) (o : PolyFT4) : PolyFT4.ofWords (o.toWords op) = some o := by
  simp [PolyFT4.ofWords, PolyFT4.toWords]

@[simp] theorem PolyG3.ofWords_toWords (op : BitVec 8) (o : PolyG3) : PolyG3.ofWords (o.toWords op) = some o := by
  simp [PolyG3.ofWords, PolyG3.toWords]

@[simp] theorem PolyGT3.ofWords_toWords (op : BitVec 8) (o : PolyGT3) : PolyGT3.ofWords (o.toWords op) = some o := by
  simp [PolyGT3.ofWords, PolyGT3.toWords]

@[simp] theorem PolyG4.ofWords_toWords (op : BitVec 8) (o : PolyG4) : PolyG4.ofWords (o.toWords op) = some o := by
  simp [PolyG4.ofWords, PolyG4.toWords]

@[simp] theorem PolyGT4.ofWords_toWords (op : BitVec 8) (o : PolyGT4) : PolyGT4.ofWords (o.toWords op) = some o := by
  simp [PolyGT4.ofWords, PolyGT4.toWords]

@[simp] theorem LineF.ofWords_toWords (op : BitVec 8) (o : LineF) : LineF.ofWords (o.toWords op) = some o := by
  simp [LineF.ofWords, LineF.toWords]

@[simp] theorem LineG.ofWords_toWords (op : BitVec 8) (o : LineG) : LineG.ofWords (o.toWords op) = some o := by
  simp [LineG.ofWords, LineG.toWords]

@[simp] theorem RectV.ofWords_toWords (op : BitVec 8) (o : RectV) : RectV.ofWords (o.toWords op) = some o := by
  simp [RectV.ofWords, RectV.toWords]

@[simp] theorem RectTV.ofWords_toWords (op : BitVec 8) (o : RectTV) : RectTV.ofWords (o.toWords op) = some o := by
  simp [RectTV.ofWords, RectTV.toWords]

@[simp] theorem RectS.ofWords_toWords (op : BitVec 8) (o : RectS) : RectS.ofWords (o.toWords op) = some o := by
  simp [RectS.ofWords, RectS.toWords]

@[simp] theorem RectTS.ofWords_toWords (op : BitVec 8) (o : RectTS) : RectTS.ofWords (o.toWords op) = some o := by
  simp [RectTS.ofWords, RectTS.toWords]

@[simp] theorem Fill.ofWords_toWords (op : BitVec 8) (o : Fill) : Fill.ofWords (o.toWords op) = some o := by
  simp [Fill.ofWords, Fill.toWords]

@[simp] theorem CopyVV.ofWords_toWords (op : BitVec 8) (o : CopyVV) : CopyVV.ofWords (o.toWords op) = some o := by
  simp [CopyVV.ofWords, CopyVV.toWords]

@[simp] theorem CopyXfer.ofWords_toWords (op : BitVec 8) (o : CopyXfer) :
    CopyXfer.ofWords (o.toWords op) = some o := by
  simp [CopyXfer.ofWords, CopyXfer.toWords]

/-! ### The first word and the word count of every instruction -/

/-- The lemmas of `Laws/PerInstr.lean`, one per constructor, as one. -/
theorem encode_shape (i : Instr) : Laws.EncodeShape.Statement i := by
  open Laws.EncodeShape in
  cases i
  exacts [nop, clrCache, fill _, irq,
    polyF3 _, polyF3At21 _, polyF3S _, polyF3SAt23 _, polyFT3 _, polyFT3R _, polyFT3S _, polyFT3SR _,
    polyF4 _, polyF4At29 _, polyF4S _, polyF4SAt2b _, polyFT4 _, polyFT4R _, polyFT4S _, polyFT4SR _,
    polyG3 _, polyG3At31 _, polyG3S _, polyG3SAt33 _, polyGT3 _, polyGT3R _, polyGT3S _, polyGT3SR _,
    polyG4 _, polyG4At39 _, polyG4S _, polyG4SAt3b _, polyGT4 _, polyGT4R _, polyGT4S _, polyGT4SR _,
    lineF _, lineFAt41 _, lineFS _, lineFSAt43 _, lineFAt44 _, lineFAt45 _, lineFSAt46 _, lineFSAt47 _,
    polyline48, polyline49, polyline4a, polyline4b, polyline4c, polyline4d, polyline4e, polyline4f,
    lineG _, lineGAt51 _, lineGS _, lineGSAt53 _, lineGAt54 _, lineGAt55 _, lineGSAt56 _, lineGSAt57 _,
    polyline58, polyline59, polyline5a, polyline5b, polyline5c, polyline5d, polyline5e, polyline5f,
    rectV _, rectVAt61 _, rectVS _, rectVSAt63 _, rectTV _, rectTVR _, rectTVS _, rectTVSR _,
    rect1 _, rect1At69 _, rect1S _, rect1SAt6b _, rectT1 _, rectT1R _, rectT1S _, rectT1SR _,
    rect8 _, rect8At71 _, rect8S _, rect8SAt73 _, rectT8 _, rectT8R _, rectT8S _, rectT8SR _,
    rect16 _, rect16At79 _, rect16S _, rect16SAt7b _, rectT16 _, rectT16R _, rectT16S _, rectT16SR _,
    copyVV _, copyCV _, copyVC _, drawMode _, texWin _, areaTL _, areaBR _, offset _, maskSet _,
    g1Reset, g1ClrQ, g1AckIrq, g1DispEn _, g1DmaDir _, g1DispStart _, g1HRange _, g1VRange _, g1DispMode _,
    g1GetInfo _]

/-- The encoder writes a first word, and it carries the opcode (R140). -/
theorem encode_eq_cons (i : Instr) : ∃ w ws, encode i = w :: ws ∧ opcodeOf w = i.opcode := by
  have head := (encode_shape i).1
  cases hw : encode i with
  | nil => simp [hw] at head
  | cons w ws => exact ⟨w, ws, rfl, by simpa [hw] using head⟩

/-! ### The opcode tables agree -/

/-- The builder knows no opcode without a word count. -/
theorem gp0Words_of_buildGp0 {op : BitVec 8} {ws : List Word} {i : Instr} (h : buildGp0 op ws = some i) :
    ∃ n, gp0Words op = some n := by
  unfold buildGp0 at h
  split at h <;> rename_i hop
  case h_94 => cases h
  all_goals
    rw [gp0Words, hop]
    exact ⟨_, rfl⟩

theorem polylineOf_eq_none_of_isSome : ∀ op : BitVec 8, (gp0Words op).isSome → polylineOf op = none := by
  decide +kernel

/-- A polyline opcode has no word count. -/
theorem polylineOf_of_gp0Words {op : BitVec 8} {n : Nat} (h : gp0Words op = some n) : polylineOf op = none :=
  polylineOf_eq_none_of_isSome op (by simp [h])

/-! ### The three ways the decoder reads an instruction -/

section Branches

variable {i : Instr} (rest : List Word)

/-- A polyline opcode is read from its first word alone (R322). -/
theorem decode_encode_polyline (line : polylineOf i.opcode = some i) (one : (encode i).length = 1) :
    decode .gp0 (encode i ++ rest) = .ok (i, rest) := by
  obtain ⟨w, ws, hws, hop⟩ := encode_eq_cons i
  obtain rfl : ws = [] := by simpa [hws] using one
  simp [hws, decode, hop, line]

/-- Any other GP0 command is read from the words its opcode asks for (R150). -/
theorem decode_encode_counted (channel : i.channel = .gp0) (build : buildGp0 i.opcode (encode i) = some i) :
    decode .gp0 (encode i ++ rest) = .ok (i, rest) := by
  obtain ⟨n, hn⟩ := gp0Words_of_buildGp0 build
  have length : (encode i).length = n := by simpa [channel, hn] using (encode_shape i).2
  obtain ⟨w, ws, hws, hop⟩ := encode_eq_cons i
  rw [hws] at length build
  subst length
  simp [hws, decode, hop, polylineOf_of_gp0Words hn, hn, build]

/-- A GP1 command is one word (R140). -/
theorem decode_gp1_of_build {w : Word} (build : buildGp1 w = some i) : decode .gp1 (w :: rest) = .ok (i, rest) := by
  simp [decode, build]

end Branches

/-- Every instruction is read back by the branch of the decoder its opcode takes; the operands are read back by the
field lemmas of `Laws/Decode.lean`, through the bundles of a GP0 command (R150) and one by one for GP1 (R162). -/
theorem decode_encode (i : Instr) (rest : List Word) : decode i.channel (encode i ++ rest) = .ok (i, rest) := by
  open Laws.EncodeShape in
  cases i with
  | polyline48 | polyline49 | polyline4a | polyline4b | polyline4c | polyline4d | polyline4e | polyline4f
  | polyline58 | polyline59 | polyline5a | polyline5b | polyline5c | polyline5d | polyline5e | polyline5f =>
    exact decode_encode_polyline rest rfl rfl
  | nop | clrCache | irq => exact decode_encode_counted rest rfl rfl
  | fill o
  | polyF3 o | polyF3At21 o | polyF3S o | polyF3SAt23 o | polyFT3 o | polyFT3R o | polyFT3S o | polyFT3SR o
  | polyF4 o | polyF4At29 o | polyF4S o | polyF4SAt2b o | polyFT4 o | polyFT4R o | polyFT4S o | polyFT4SR o
  | polyG3 o | polyG3At31 o | polyG3S o | polyG3SAt33 o | polyGT3 o | polyGT3R o | polyGT3S o | polyGT3SR o
  | polyG4 o | polyG4At39 o | polyG4S o | polyG4SAt3b o | polyGT4 o | polyGT4R o | polyGT4S o | polyGT4SR o
  | lineF o | lineFAt41 o | lineFS o | lineFSAt43 o | lineFAt44 o | lineFAt45 o | lineFSAt46 o | lineFSAt47 o
  | lineG o | lineGAt51 o | lineGS o | lineGSAt53 o | lineGAt54 o | lineGAt55 o | lineGSAt56 o | lineGSAt57 o
  | rectV o | rectVAt61 o | rectVS o | rectVSAt63 o | rectTV o | rectTVR o | rectTVS o | rectTVSR o
  | rect1 o | rect1At69 o | rect1S o | rect1SAt6b o | rectT1 o | rectT1R o | rectT1S o | rectT1SR o
  | rect8 o | rect8At71 o | rect8S o | rect8SAt73 o | rectT8 o | rectT8R o | rectT8S o | rectT8SR o
  | rect16 o | rect16At79 o | rect16S o | rect16SAt7b o | rectT16 o | rectT16R o | rectT16S o | rectT16SR o =>
    exact decode_encode_counted rest rfl (congrArg (Option.map _) (o.ofWords_toWords _))
  | copyVV o => exact decode_encode_counted rest rfl (congrArg (Option.map _) (o.ofWords_toWords 0x80#8))
  | copyCV o => exact decode_encode_counted rest rfl (congrArg (Option.map _) (o.ofWords_toWords 0xA0#8))
  | copyVC o => exact decode_encode_counted rest rfl (congrArg (Option.map _) (o.ofWords_toWords 0xC0#8))
  | drawMode o => exact decode_encode_counted rest rfl (congrArg (some <| Instr.drawMode ·) (o.ofWord_toWord _))
  | texWin o => exact decode_encode_counted rest rfl (congrArg (some <| Instr.texWin ·) (o.ofWord_toWord _))
  | areaTL o => exact decode_encode_counted rest rfl (congrArg (some <| Instr.areaTL ·) (o.ofWord_toWord _))
  | areaBR o => exact decode_encode_counted rest rfl (congrArg (some <| Instr.areaBR ·) (o.ofWord_toWord _))
  | offset o => exact decode_encode_counted rest rfl (congrArg (some <| Instr.offset ·) (o.ofWord_toWord _))
  | maskSet o => exact decode_encode_counted rest rfl (congrArg (some <| Instr.maskSet ·) (o.ofWord_toWord _))
  | g1Reset | g1ClrQ | g1AckIrq => exact decode_gp1_of_build rest (by simp [buildGp1])
  | g1DispEn o => exact decode_gp1_of_build rest (by simp [buildGp1, opcodeOf_dispEn])
  | g1DmaDir o => exact decode_gp1_of_build rest (by simp [buildGp1, opcodeOf_dmaDir])
  | g1DispStart o => exact decode_gp1_of_build rest (by simp [buildGp1, opcodeOf_dispStart])
  | g1HRange o => exact decode_gp1_of_build rest (by simp [buildGp1, opcodeOf_hRange])
  | g1VRange o => exact decode_gp1_of_build rest (by simp [buildGp1, opcodeOf_vRange])
  | g1DispMode o => exact decode_gp1_of_build rest (by simp [buildGp1, opcodeOf_dispMode])
  | g1GetInfo o => exact decode_gp1_of_build rest (by simp [buildGp1, opcodeOf_getInfo])

end Sys2Proof

/-- Settles O1, constructor by constructor: each opcode takes one of the decoder's three branches. -/
theorem decodeEncode : Obligations.DecodeEncode := decode_encode

namespace Sys2Proof

/-! ### Word counts from the opcode's bits (R152 to R154), one lemma per class of opcodes: finite checks of the table -/

theorem gp0Words_polygon : ∀ op : BitVec 8, op.extractLsb' 5 3 = 1#3 →
    gp0Words op = some ((3 + (op.getLsbD 3).toNat) * (1 + (op.getLsbD 2).toNat) +
      (if op.getLsbD 4 then 3 + (op.getLsbD 3).toNat else 1)) := by decide +kernel

theorem gp0Words_line : ∀ op : BitVec 8, op.extractLsb' 5 3 = 2#3 → op.getLsbD 3 = false →
    gp0Words op = some (3 + (op.getLsbD 4).toNat) := by decide +kernel

theorem gp0Words_polyline : ∀ op : BitVec 8, op.extractLsb' 5 3 = 2#3 → op.getLsbD 3 = true →
    gp0Words op = none := by decide +kernel

theorem gp0Words_rectangle : ∀ op : BitVec 8, op.extractLsb' 5 3 = 3#3 →
    gp0Words op = some (2 + (op.getLsbD 2).toNat + (if op.extractLsb' 3 2 = 0#2 then 1 else 0)) := by decide +kernel

/-- Words that are the encoder's for some instruction decode to it. -/
theorem decode_of_encode {ch : Channel} {i : Instr} {ws : List Word} (channel : i.channel = ch)
    (words : encode i = ws) : decode ch ws = .ok (i, []) := by
  simpa [channel, words] using decode_encode i []

end Sys2Proof

/-- Settles O2: the length table read class by class. -/
theorem wordCountFromBits : Obligations.WordCountFromBits := fun op =>
  ⟨gp0Words_polygon op, gp0Words_line op, gp0Words_polyline op, gp0Words_rectangle op⟩

/-- Settles O3: the encoder writes these words, so decoding them is `decode_encode`. -/
theorem writtenWordsDecode : Obligations.WrittenWordsDecode :=
  ⟨decode_of_encode rfl (by decide), decode_of_encode rfl (by decide), decode_of_encode rfl (by decide),
    decode_of_encode rfl (by decide), decode_of_encode rfl (by decide), decode_of_encode rfl (by decide)⟩

end

section

open Sys2Proof Sys2Proof.Machine Sys2Proof.Claims

/-! ## The words of one command (O4) -/

namespace Sys2Proof.Machine

theorem Feeds.append {d d' d'' : Dec} {ws vs : List Word} {js ks : List Job} (h : Feeds d ws d' js)
    (h' : Feeds d' vs d'' ks) : Feeds d (ws ++ vs) d'' (js ++ ks) := by
  induction h with
  | nil d => exact h'
  | cons first rest ih =>
    rw [List.cons_append, List.append_assoc]
    exact .cons first (ih h')

theorem Feeds.single {d d' : Dec} {w : Word} {js : List Job} (h : FeedsWord d w d' js) : Feeds d [w] d' js := by
  simpa using Feeds.cons h (.nil d')

/-! ### The data phase (R197) -/

/-- The data phase queues each of its words and ends with the last (R197). -/
theorem feeds_data {n : Nat} {data : List Word} (hn : 0 < n) (hl : data.length = n) :
    Feeds (.dataIn n) data .idle (data.map .data) := by
  induction data generalizing n with
  | nil => exact absurd hl hn.ne
  | cons v vs ih =>
    have next : FeedsWord (.dataIn n) v (if n ≤ 1 then .idle else .dataIn (n - 1)) [.data v] := fun s hd => by
      rw [feed, hd]
      rfl
    refine .cons next ?_
    cases vs with
    | nil =>
      obtain rfl : n = 1 := by simpa using hl.symm
      exact .nil _
    | cons v' vs =>
      simp only [List.length_cons] at hl
      rw [if_neg (by omega)]
      exact ih (by omega) (by simp only [List.length_cons]; omega)

theorem dataWords_pos {z : SizeWH} (hz : z.nonzero = true) : 0 < dataWords z := by
  have pos : 0 < z.w.toNat * z.h.toNat := xferTotal_startXfer_pos (o := ⟨default, z⟩) hz
  simp only [dataWords]
  omega

/-! ### The words up to the last (R192 to R194) -/

/-- The decoder between commands, or with the first words of a command collected (R192). -/
def holding (op : BitVec 8) (need : Nat) : List Word → Dec
  | [] => .idle
  | w :: ws => .collect op need (w :: ws)

section OneCommand

variable {op : BitVec 8} {need : Nat} {w : Word} {ws : List Word} (hn : gp0Words op = some need) (hop : opcodeOf w = op)
include hn hop

/-- The decoder that holds the first `k` words of a command accepts the next one (R192, R193). -/
theorem feed_holding {k : Nat} (hk : k < (w :: ws).length) {s : State}
    (hd : s.dec = holding op need ((w :: ws).take k)) :
    feed (w :: ws)[k] s = .next (accept op need ((w :: ws).take (k + 1)) s) := by
  cases k with
  | zero =>
    have idle : s.dec = .idle := hd
    subst hop
    simp [feed, idle, feedIdle, polylineOf_of_gp0Words hn, hn]
  | succ k =>
    have collecting : s.dec = .collect op need ((w :: ws).take (k + 1)) := hd
    rw [← List.take_append_getElem hk, feed, collecting]

/-- Fewer words than the command's count are held, and nothing is enqueued (R192). -/
theorem feeds_take (hl : (w :: ws).length = need) {k : Nat} (hk : k < need) :
    Feeds .idle ((w :: ws).take k) (holding op need ((w :: ws).take k)) [] := by
  induction k with
  | zero => exact .nil _
  | succ k ih =>
    have hk' : k < (w :: ws).length := by omega
    have held : FeedsWord (holding op need ((w :: ws).take k)) (w :: ws)[k]
        (holding op need ((w :: ws).take (k + 1))) [] := fun s hd => by
      have short : ((w :: ws).take (k + 1)).length < need := by rw [List.length_take]; omega
      rw [feed_holding hn hop hk' hd, accept, if_pos short, List.append_nil]
      rfl
    have both := (ih (by omega)).append (.single held)
    rwa [List.take_append_getElem hk'] at both

/-- The last word of a command that `Complete` admits enqueues its one job (R195). -/
theorem feeds_command (hl : (w :: ws).length = need) {d : Dec}
    (hc : ∀ s, complete op (w :: ws) s = enqueue (.cmd (w :: ws)) { s with dec := d }) :
    Feeds .idle (w :: ws) d [.cmd (w :: ws)] := by
  have pos : 0 < need := hl ▸ Nat.succ_pos _
  have hlast : need - 1 < (w :: ws).length := by omega
  have whole : (w :: ws).take (need - 1 + 1) = w :: ws := List.take_of_length_le (by omega)
  have last : FeedsWord (holding op need ((w :: ws).take (need - 1))) (w :: ws)[need - 1] d [.cmd (w :: ws)] :=
    fun s hd => by
      rw [feed_holding hn hop hlast hd, whole, accept, if_neg (by omega), hc]
      rfl
  have both := (feeds_take hn hop hl (by omega)).append (.single last)
  rwa [List.take_append_getElem hlast, whole] at both

end OneCommand

/-! ### The whole command (R195) -/

/-- An admitted command other than COPY_CV is queued and leaves the decoder idle (R195). -/
theorem complete_other {op : BitVec 8} {ws : List Word} (hop : op ≠ 0xA0#8)
    (hsize : ∀ z, copySize op ws = some z → z.nonzero = true) (s : State) :
    complete op ws s = enqueue (.cmd ws) { s with dec := .idle } := by
  cases hz : copySize op ws with
  | none => simp only [complete, hz]
  | some z => rw [complete_copy hz (hsize z hz), if_neg hop]

end Sys2Proof.Machine

/-- Settles O4: what the words do to the decoder and the queue is `Feeds`, part by part (first words, last word, the
data phase); everything else is kept by `Feeds.feedAll`. -/
theorem decoderLaw : Obligations.DecoderLaw := by
  intro s op need w ws hs hidle hn hop hl hsize
  refine ⟨fun k hpos hk => ?_, fun hne => ?_, fun hA0 z hz => ?_⟩
  · have held : holding op need ((w :: ws).take k) = .collect op need ((w :: ws).take k) := by
      cases k with
      | zero => omega
      | succ k => rfl
    rw [(feeds_take hn hop hl hk).feedAll hidle hs, held, List.append_nil]
  · rw [(feeds_command hn hop hl (complete_other hne hsize)).feedAll hidle hs, ← hidle]
  · subst hA0
    have header : Feeds .idle (w :: ws) (.dataIn (dataWords z)) [.cmd (w :: ws)] :=
      feeds_command hn hop hl (complete_copy hz (hsize z hz))
    refine ⟨header.feedAll hidle hs, fun data hdata => ?_⟩
    rw [(header.append (feeds_data (dataWords_pos (hsize z hz)) hdata)).feedAll hidle hs, ← hidle]
    rfl

end

section

open Sys2Proof Sys2Proof.Machine Sys2Proof.Claims

/-! ## The faults of the decoder (O6) and the commands without operands (O17) -/

namespace Sys2Proof

/-! ### Opcodes that no command has: finite checks of the opcode map -/

theorem no_command_of_unlisted : ∀ op : BitVec 8, Unlisted op → polylineOf op = none ∧ gp0Words op = none := by
  decide +kernel

theorem polylineOf_polylineOp : ∀ op : BitVec 8, PolylineOp op → (polylineOf op).isSome := by decide +kernel

namespace Machine

/-- A word on which the decoder raises ends its step there: nothing is drained and the ready bit stays clear (R543). -/
theorem step_of_feed_raise {s u : State} {w : Word} {rest : List Event} {f : Fault} (hs : s.halted = none)
    (he : s.events = .writeData w :: rest)
    (hf : feed w (clearReadyCmd { s with events := rest }) = .next (raise f u)) : step s = .next (raise f u) := by
  have write : step s = writeData w { s with events := rest } := step_event hs he (.inl rfl)
  rw [write, writeData, feedAndDrain, feedAll, hf]
  simp only [andThen_dead (live_raise f u)]

theorem firstWordRaises_of_feedIdle {cond : BitVec 8 → Prop} {f : BitVec 8 → Fault}
    (h : ∀ (w : Word) (s : State), cond (opcodeOf w) → feedIdle w s = .next (raise (f (opcodeOf w)) s)) :
    FirstWordRaises cond f := by
  intro s w rest hs hidle he hw
  refine step_of_feed_raise (u := clearReadyCmd { s with events := rest }) hs he ?_
  rw [feed, clearReadyCmd_dec, hidle]
  exact h w _ hw

theorem feedIdle_unlisted (w : Word) (s : State) (h : Unlisted (opcodeOf w)) :
    feedIdle w s = .next (raise (.unknownOpcode .gp0 (opcodeOf w)) s) := by
  obtain ⟨line, words⟩ := no_command_of_unlisted _ h
  simp only [feedIdle, line, words]

theorem feedIdle_polyline (w : Word) (s : State) (h : PolylineOp (opcodeOf w)) :
    feedIdle w s = .next (raise (.unsupportedFeature .polyline (opcodeOf w)) s) := by
  obtain ⟨i, line⟩ := Option.isSome_iff_exists.mp (polylineOf_polylineOp _ h)
  simp only [feedIdle, line]
  exact exec_polyline line s

/-- The size word of a copy is its last header word (R195). -/
theorem copySize_last {op : BitVec 8} {need : Nat} {ws : List Word} (z : Word) (hl : ws.length + 1 = need)
    (hop : op = 0x80#8 ∧ need = 4 ∨ op = 0xA0#8 ∧ need = 3 ∨ op = 0xC0#8 ∧ need = 3) :
    copySize op (ws ++ [z]) = some (.ofWord z) := by
  rcases hop with ⟨rfl, rfl⟩ | ⟨rfl, rfl⟩ | ⟨rfl, rfl⟩
  · match ws, hl with
    | [_, _, _], _ => rfl
  · match ws, hl with
    | [_, _], _ => rfl
  · match ws, hl with
    | [_, _], _ => rfl

theorem nonzero_ofWord_of_zero {z : Word} (h : bits z 0 16 = 0#16 ∨ bits z 16 16 = 0#16) :
    (SizeWH.ofWord z).nonzero = false := by
  rcases h with h | h <;> simp [SizeWH.ofWord, SizeWH.nonzero, h]

/-- A copy of zero size raises with the decoder idle and nothing queued (R195). -/
theorem complete_zeroSize {op : BitVec 8} {ws : List Word} {z : SizeWH} (hz : copySize op ws = some z)
    (hnz : z.nonzero = false) (s : State) :
    complete op ws s = raise (.unsupportedFeature .zeroSizeTransfer op) { s with dec := .idle } := by
  simp [complete, hz, hnz]

theorem zeroSizeRaises : ZeroSizeRaises := by
  intro s z rest op need ws hs hdec hl he hop hzero
  have size := copySize_last z hl hop
  have full : ¬ (ws ++ [z]).length < need := by simp [hl]
  refine step_of_feed_raise (u := { clearReadyCmd { s with events := rest } with dec := .idle }) hs he ?_
  rw [feed, clearReadyCmd_dec, hdec]
  simp only [accept, if_neg full]
  rw [complete_zeroSize size (nonzero_ofWord_of_zero hzero)]

end Machine
end Sys2Proof

/-- Settles O6: each of the three words makes the decoder raise, and a raise ends the step. -/
theorem decoderFaults : Obligations.DecoderFaults :=
  ⟨firstWordRaises_of_feedIdle feedIdle_unlisted, firstWordRaises_of_feedIdle feedIdle_polyline, zeroSizeRaises⟩

/-- Settles O17: the three meanings, read off `exec`. -/
theorem noOperandCommands : Obligations.NoOperandCommands := fun _ => ⟨rfl, rfl, rfl⟩

end

section

open Sys2Proof Sys2Proof.Machine Sys2Proof.Claims

/-! ## Coverage of a triangle (O42, O43, O44)

The edge functions are affine in the pixel and, up to the area, its barycentric coordinates; the fill rule makes them
strict on the edges that are not top-left. -/

namespace Sys2Proof.Machine

/-! ### The cross product and the winding (R237, R238) -/

theorem orient_reverse (a b : PVertex) (x y : Int) : orient b a x y = -orient a b x y := by
  simp only [orient]
  ring

theorem orient_rotate (a b c : PVertex) : orient b c a.x a.y = orient a b c.x c.y := by
  simp only [orient]
  ring

theorem orient_swap (a b c : PVertex) : orient a c b.x b.y = -orient a b c.x c.y := by
  simp only [orient]
  ring

theorem windTri_zero {p0 p1 p2 : PVertex} (h : orient p0 p1 p2.x p2.y = 0) : windTri p0 p1 p2 = none := by
  simp [windTri, h]

theorem windTri_pos {p0 p1 p2 : PVertex} (h : 0 < orient p0 p1 p2.x p2.y) :
    windTri p0 p1 p2 = some ⟨p0, p1, p2, orient p0 p1 p2.x p2.y⟩ := by
  simp [windTri, h.ne', h.not_gt]

theorem windTri_neg {p0 p1 p2 : PVertex} (h : orient p0 p1 p2.x p2.y < 0) :
    windTri p0 p1 p2 = some ⟨p0, p2, p1, -orient p0 p1 p2.x p2.y⟩ := by
  simp [windTri, h.ne, h]

/-- Everything the winding can answer (R238). -/
theorem windTri_cases {p0 p1 p2 : PVertex} {t : Tri} (h : windTri p0 p1 p2 = some t) :
    (0 < orient p0 p1 p2.x p2.y ∧ t = ⟨p0, p1, p2, orient p0 p1 p2.x p2.y⟩) ∨
      (orient p0 p1 p2.x p2.y < 0 ∧ t = ⟨p0, p2, p1, -orient p0 p1 p2.x p2.y⟩) := by
  rcases lt_trichotomy (orient p0 p1 p2.x p2.y) 0 with neg | zero | pos
  · rw [windTri_neg neg] at h
    exact .inr ⟨neg, (Option.some.inj h).symm⟩
  · rw [windTri_zero zero] at h
    cases h
  · rw [windTri_pos pos] at h
    exact .inl ⟨pos, (Option.some.inj h).symm⟩

/-- The vertices turn the positive way, and `area` is their area. -/
structure Tri.Wound (t : Tri) : Prop where
  area_eq : t.area = orient t.p0 t.p1 t.p2.x t.p2.y
  area_pos : 0 < t.area

theorem windTri_wound {p0 p1 p2 : PVertex} {t : Tri} (h : windTri p0 p1 p2 = some t) : t.Wound := by
  rcases windTri_cases h with ⟨pos, rfl⟩ | ⟨neg, rfl⟩
  · exact ⟨rfl, pos⟩
  · exact ⟨(orient_swap p0 p1 p2).symm, neg_pos.mpr neg⟩

/-! ### The edge functions are barycentric coordinates (R242) -/

theorem Tri.Wound.edge_sum {t : Tri} (h : t.Wound) (x y : Int) : edge0 t x y + edge1 t x y + edge2 t x y = t.area := by
  rw [h.area_eq]
  simp only [edge0, edge1, edge2, orient]
  ring

theorem Tri.Wound.edge_sum_x {t : Tri} (h : t.Wound) (x y : Int) :
    t.p0.x * edge0 t x y + t.p1.x * edge1 t x y + t.p2.x * edge2 t x y = x * t.area := by
  rw [h.area_eq]
  simp only [edge0, edge1, edge2, orient]
  ring

theorem Tri.Wound.edge_sum_y {t : Tri} (h : t.Wound) (x y : Int) :
    t.p0.y * edge0 t x y + t.p1.y * edge1 t x y + t.p2.y * edge2 t x y = y * t.area := by
  rw [h.area_eq]
  simp only [edge0, edge1, edge2, orient]
  ring

/-! ### The fill rule (R241, R242) -/

/-- The pixel lies on the inner side of the edge from `a` to `b`, or on an edge that the fill rule counts as inside. -/
def OnInnerSide (a b : PVertex) (x y : Int) : Prop :=
  0 < orient a b x y ∨ orient a b x y = 0 ∧ isTopLeft a b = true

theorem OnInnerSide.nonneg {a b : PVertex} {x y : Int} (h : OnInnerSide a b x y) : 0 ≤ orient a b x y := by
  rcases h with pos | ⟨zero, -⟩
  · exact pos.le
  · exact zero.ge

theorem biased_nonneg_iff (a b : PVertex) (x y : Int) :
    0 ≤ orient a b x y + edgeBias a b ↔ OnInnerSide a b x y := by
  unfold edgeBias OnInnerSide
  cases isTopLeft a b
  · simp; omega
  · simp; omega

theorem isTopLeft_iff (a b : PVertex) : isTopLeft a b = true ↔ (a.y = b.y ∧ a.x < b.x) ∨ b.y < a.y := by
  simp [isTopLeft]

/-- Of the two directions of an edge the fill rule takes at most one ... -/
theorem not_topLeft_reverse {a b : PVertex} (h : isTopLeft a b = true) : isTopLeft b a = false := by
  rw [← Bool.not_eq_true, isTopLeft_iff]
  rw [isTopLeft_iff] at h
  omega

/-- ... and at least one, when the edge has two ends. -/
theorem topLeft_or_reverse {a b : PVertex} (h : ¬ (a.x = b.x ∧ a.y = b.y)) :
    isTopLeft a b = true ∨ isTopLeft b a = true := by
  rw [isTopLeft_iff, isTopLeft_iff]
  omega

/-- The pixel is inside the triangle `a`, `b`, `c`, which turns the positive way. -/
def Inside (a b c : PVertex) (x y : Int) : Prop := OnInnerSide a b x y ∧ OnInnerSide b c x y ∧ OnInnerSide c a x y

theorem inside_rotate (a b c : PVertex) (x y : Int) : Inside b c a x y ↔ Inside a b c x y := by
  unfold Inside
  tauto

theorem covers_iff (t : Tri) (x y : Int) : covers t x y = true ↔ Inside t.p0 t.p1 t.p2 x y := by
  rw [covers, decide_eq_true_eq]
  simp only [edge0, edge1, edge2, biased_nonneg_iff, Inside]
  tauto

/-! ### Weighted means -/

section Mean

variable {w0 w1 w2 a0 a1 a2 b : Int} (h0 : 0 ≤ w0) (h1 : 0 ≤ w1) (h2 : 0 ≤ w2)
include h0 h1 h2

theorem mul_sum_le_weighted (ha0 : b ≤ a0) (ha1 : b ≤ a1) (ha2 : b ≤ a2) :
    b * (w0 + w1 + w2) ≤ a0 * w0 + a1 * w1 + a2 * w2 := by
  have t0 := mul_le_mul_of_nonneg_right ha0 h0
  have t1 := mul_le_mul_of_nonneg_right ha1 h1
  have t2 := mul_le_mul_of_nonneg_right ha2 h2
  linarith

theorem weighted_le_mul_sum (ha0 : a0 ≤ b) (ha1 : a1 ≤ b) (ha2 : a2 ≤ b) :
    a0 * w0 + a1 * w1 + a2 * w2 ≤ b * (w0 + w1 + w2) := by
  have t0 := mul_le_mul_of_nonneg_right ha0 h0
  have t1 := mul_le_mul_of_nonneg_right ha1 h1
  have t2 := mul_le_mul_of_nonneg_right ha2 h2
  linarith

end Mean

section Covered

variable {t : Tri} {x y : Int} (ht : t.Wound) (hc : covers t x y = true)
include hc

theorem edges_nonneg : 0 ≤ edge0 t x y ∧ 0 ≤ edge1 t x y ∧ 0 ≤ edge2 t x y := by
  obtain ⟨h2, h0, h1⟩ := (covers_iff t x y).mp hc
  exact ⟨h0.nonneg, h1.nonneg, h2.nonneg⟩

include ht

theorem left_le_of_covers {lo : Int} (h0 : lo ≤ t.p0.x) (h1 : lo ≤ t.p1.x) (h2 : lo ≤ t.p2.x) : lo ≤ x := by
  obtain ⟨e0, e1, e2⟩ := edges_nonneg hc
  have mean := mul_sum_le_weighted e0 e1 e2 h0 h1 h2
  rw [ht.edge_sum, ht.edge_sum_x] at mean
  exact le_of_mul_le_mul_right mean ht.area_pos

theorem top_le_of_covers {lo : Int} (h0 : lo ≤ t.p0.y) (h1 : lo ≤ t.p1.y) (h2 : lo ≤ t.p2.y) : lo ≤ y := by
  obtain ⟨e0, e1, e2⟩ := edges_nonneg hc
  have mean := mul_sum_le_weighted e0 e1 e2 h0 h1 h2
  rw [ht.edge_sum, ht.edge_sum_y] at mean
  exact le_of_mul_le_mul_right mean ht.area_pos

end Covered

/-! ### The right and the bottom side of the box are excluded (R240, R242) -/

/-- An edge on which a covered pixel lies is top-left: walking along it never leads down, and to the right when it is
level. The weight `m` says whether the pixel lies on it. -/
theorem OnInnerSide.weighted {a b : PVertex} {x y m : Int} (h : OnInnerSide a b x y) (hm : 0 ≤ m)
    (hz : m * orient a b x y = 0) :
    0 ≤ m * (a.y - b.y) ∧ (m * (a.y - b.y) = 0 → 0 ≤ m * (b.x - a.x)) := by
  rcases mul_eq_zero.mp hz with rfl | zero
  · simp
  · rcases h with pos | ⟨-, topLeft⟩
    · exact absurd zero pos.ne'
    · rcases (isTopLeft_iff a b).mp topLeft with ⟨level, right⟩ | up
      · exact ⟨by simp [level], fun _ => mul_nonneg hm (by omega)⟩
      · refine ⟨mul_nonneg hm (by omega), fun hy => ?_⟩
        rcases mul_eq_zero.mp hy with rfl | hy
        · simp
        · omega

/-- A weighted sum of the edge functions that falls to the right, or does not change to the right and falls downwards,
is positive on a covered pixel. -/
theorem weighted_edges_pos {t : Tri} {x y m0 m1 m2 : Int} (hc : covers t x y = true) (h0 : 0 ≤ m0) (h1 : 0 ≤ m1)
    (h2 : 0 ≤ m2)
    (hslope : m0 * (t.p1.y - t.p2.y) + m1 * (t.p2.y - t.p0.y) + m2 * (t.p0.y - t.p1.y) < 0 ∨
      m0 * (t.p1.y - t.p2.y) + m1 * (t.p2.y - t.p0.y) + m2 * (t.p0.y - t.p1.y) = 0 ∧
        m0 * (t.p2.x - t.p1.x) + m1 * (t.p0.x - t.p2.x) + m2 * (t.p1.x - t.p0.x) < 0) :
    0 < m0 * edge0 t x y + m1 * edge1 t x y + m2 * edge2 t x y := by
  obtain ⟨side2, side0, side1⟩ := (covers_iff t x y).mp hc
  have n0 : 0 ≤ m0 * edge0 t x y := mul_nonneg h0 side0.nonneg
  have n1 : 0 ≤ m1 * edge1 t x y := mul_nonneg h1 side1.nonneg
  have n2 : 0 ≤ m2 * edge2 t x y := mul_nonneg h2 side2.nonneg
  by_contra hle
  obtain ⟨up0, right0⟩ := side0.weighted h0 (show m0 * edge0 t x y = 0 by omega)
  obtain ⟨up1, right1⟩ := side1.weighted h1 (show m1 * edge1 t x y = 0 by omega)
  obtain ⟨up2, right2⟩ := side2.weighted h2 (show m2 * edge2 t x y = 0 by omega)
  rcases hslope with falls | ⟨level, falls⟩
  · omega
  · have := right0 (by omega)
    have := right1 (by omega)
    have := right2 (by omega)
    omega

section Covered

variable {t : Tri} {x y : Int} (ht : t.Wound) (hc : covers t x y = true)
include ht hc

theorem lt_right_of_covers {hi : Int} (h0 : t.p0.x ≤ hi) (h1 : t.p1.x ≤ hi) (h2 : t.p2.x ≤ hi) : x < hi := by
  have slope : (hi - t.p0.x) * (t.p1.y - t.p2.y) + (hi - t.p1.x) * (t.p2.y - t.p0.y) +
      (hi - t.p2.x) * (t.p0.y - t.p1.y) = -t.area := by
    rw [ht.area_eq, orient]
    ring
  have pos := weighted_edges_pos hc (sub_nonneg.mpr h0) (sub_nonneg.mpr h1) (sub_nonneg.mpr h2)
    (.inl (slope.trans_lt (neg_neg_of_pos ht.area_pos)))
  have mean : (hi - t.p0.x) * edge0 t x y + (hi - t.p1.x) * edge1 t x y + (hi - t.p2.x) * edge2 t x y =
      (hi - x) * t.area := by
    linear_combination hi * ht.edge_sum x y - ht.edge_sum_x x y
  rw [mean] at pos
  exact sub_pos.mp (pos_of_mul_pos_left pos ht.area_pos.le)

theorem lt_bottom_of_covers {hi : Int} (h0 : t.p0.y ≤ hi) (h1 : t.p1.y ≤ hi) (h2 : t.p2.y ≤ hi) : y < hi := by
  have level : (hi - t.p0.y) * (t.p1.y - t.p2.y) + (hi - t.p1.y) * (t.p2.y - t.p0.y) +
      (hi - t.p2.y) * (t.p0.y - t.p1.y) = 0 := by ring
  have slope : (hi - t.p0.y) * (t.p2.x - t.p1.x) + (hi - t.p1.y) * (t.p0.x - t.p2.x) +
      (hi - t.p2.y) * (t.p1.x - t.p0.x) = -t.area := by
    rw [ht.area_eq, orient]
    ring
  have pos := weighted_edges_pos hc (sub_nonneg.mpr h0) (sub_nonneg.mpr h1) (sub_nonneg.mpr h2)
    (.inr ⟨level, slope.trans_lt (neg_neg_of_pos ht.area_pos)⟩)
  have mean : (hi - t.p0.y) * edge0 t x y + (hi - t.p1.y) * edge1 t x y + (hi - t.p2.y) * edge2 t x y =
      (hi - y) * t.area := by
    linear_combination hi * ht.edge_sum x y - ht.edge_sum_y x y
  rw [mean] at pos
  exact sub_pos.mp (pos_of_mul_pos_left pos ht.area_pos.le)

/-- An interpolated value is a weighted mean of the vertex values (R243). -/
theorem interp_mem {a0 a1 a2 lo hi : Int} (hlo : 0 ≤ lo) (h0 : lo ≤ a0 ∧ a0 ≤ hi) (h1 : lo ≤ a1 ∧ a1 ≤ hi)
    (h2 : lo ≤ a2 ∧ a2 ≤ hi) : lo ≤ interp t a0 a1 a2 x y ∧ interp t a0 a1 a2 x y ≤ hi := by
  obtain ⟨lo0, hi0⟩ := h0
  obtain ⟨lo1, hi1⟩ := h1
  obtain ⟨lo2, hi2⟩ := h2
  obtain ⟨e0, e1, e2⟩ := edges_nonneg hc
  have lower := mul_sum_le_weighted e0 e1 e2 lo0 lo1 lo2
  have upper := weighted_le_mul_sum e0 e1 e2 hi0 hi1 hi2
  rw [ht.edge_sum] at lower upper
  have nonneg := (mul_nonneg hlo ht.area_pos.le).trans lower
  rw [interp, Int.tdiv_eq_ediv_of_nonneg nonneg]
  exact ⟨(Int.le_ediv_iff_mul_le ht.area_pos).mpr lower, Int.ediv_le_of_le_mul ht.area_pos upper⟩

end Covered

/-! ### A shared edge (R241, R246) -/

/-- The triangle that is drawn is the given one in whichever order turns the positive way. -/
theorem covers_windTri {p0 p1 p2 : PVertex} {t : Tri} (h : windTri p0 p1 p2 = some t) (x y : Int) :
    (0 < orient p0 p1 p2.x p2.y ∧ (covers t x y = true ↔ Inside p0 p1 p2 x y)) ∨
      (orient p0 p1 p2.x p2.y < 0 ∧ (covers t x y = true ↔ Inside p0 p2 p1 x y)) := by
  rcases windTri_cases h with ⟨pos, rfl⟩ | ⟨neg, rfl⟩
  · exact .inl ⟨pos, covers_iff _ x y⟩
  · exact .inr ⟨neg, covers_iff _ x y⟩

/-- A pixel strictly between the ends of an edge lies strictly inside of the other two edges. -/
theorem between_ends {a b c : PVertex} {x y : Int} (hpos : 0 < orient a b c.x c.y) (hon : orient a b x y = 0)
    (hbetween : (x - a.x) * (x - b.x) + (y - a.y) * (y - b.y) < 0) :
    0 < orient b c x y ∧ 0 < orient c a x y := by
  have ht : Tri.Wound ⟨a, b, c, orient a b c.x c.y⟩ := ⟨rfl, hpos⟩
  have sum := ht.edge_sum x y
  have sumX := ht.edge_sum_x x y
  have sumY := ht.edge_sum_y x y
  simp only [edge0, edge1, edge2, hon, mul_zero, add_zero] at sum sumX sumY
  have scaled : orient b c x y * orient c a x y * ((b.x - a.x) ^ 2 + (b.y - a.y) ^ 2) =
      orient a b c.x c.y ^ 2 * -((x - a.x) * (x - b.x) + (y - a.y) * (y - b.y)) := by
    have fromA : orient a b c.x c.y * (x - a.x) = orient c a x y * (b.x - a.x) := by
      linear_combination a.x * sum - sumX
    have fromB : orient a b c.x c.y * (x - b.x) = orient b c x y * (a.x - b.x) := by
      linear_combination b.x * sum - sumX
    have fromA' : orient a b c.x c.y * (y - a.y) = orient c a x y * (b.y - a.y) := by
      linear_combination a.y * sum - sumY
    have fromB' : orient a b c.x c.y * (y - b.y) = orient b c x y * (a.y - b.y) := by
      linear_combination b.y * sum - sumY
    linear_combination orient a b c.x c.y * (x - b.x) * fromA + orient c a x y * (b.x - a.x) * fromB +
      orient a b c.x c.y * (y - b.y) * fromA' + orient c a x y * (b.y - a.y) * fromB'
  have prod : 0 < orient b c x y * orient c a x y := by
    refine pos_of_mul_pos_left (b := (b.x - a.x) ^ 2 + (b.y - a.y) ^ 2) ?_ (by positivity)
    rw [scaled]
    exact mul_pos (pow_pos hpos 2) (neg_pos.mpr hbetween)
  rcases mul_pos_iff.mp prod with both | ⟨neg0, neg1⟩
  · exact both
  · omega

/-- Two triangles on opposite sides of the edge from `b` to `c`. -/
theorem shared_edge {a b c d : PVertex} (ha : 0 < orient b c a.x a.y) (hd : orient b c d.x d.y < 0) (x y : Int) :
    ¬ (Inside b c a x y ∧ Inside c b d x y) ∧
      (orient b c x y = 0 → (x - b.x) * (x - c.x) + (y - b.y) * (y - c.y) < 0 →
        Inside b c a x y ∨ Inside c b d x y) := by
  refine ⟨?_, fun hon hbetween => ?_⟩
  · rintro ⟨⟨hbc, -⟩, hcb, -⟩
    have rev := orient_reverse b c x y
    rcases hbc with pos | ⟨zero, top⟩
    · have := hcb.nonneg
      omega
    · rcases hcb with pos | ⟨-, top'⟩
      · omega
      · simp [not_topLeft_reverse top] at top'
  · have ends : ¬ (b.x = c.x ∧ b.y = c.y) := fun ⟨hx, hy⟩ => by
      simp [orient, hx, hy] at ha
    have hon' : orient c b x y = 0 := by rw [orient_reverse, hon, neg_zero]
    rcases topLeft_or_reverse ends with top | top
    · obtain ⟨h1, h2⟩ := between_ends ha hon hbetween
      exact .inl ⟨.inr ⟨hon, top⟩, .inl h1, .inl h2⟩
    · have hd' : 0 < orient c b d.x d.y := by rw [orient_reverse]; omega
      obtain ⟨h1, h2⟩ := between_ends hd' hon' (by linarith)
      exact .inr ⟨.inr ⟨hon', top⟩, .inl h1, .inl h2⟩

end Sys2Proof.Machine

/-- Settles O43: the pixel is the mean of the vertices weighted by the edge functions, and the fill rule excludes the
right and the bottom side. -/
theorem coverageInsideBox : Obligations.CoverageInsideBox := by
  intro p0 p1 p2 t x y h hc
  have ht := windTri_wound h
  refine ⟨left_le_of_covers ht hc ?_ ?_ ?_, lt_right_of_covers ht hc ?_ ?_ ?_, top_le_of_covers ht hc ?_ ?_ ?_,
    lt_bottom_of_covers ht hc ?_ ?_ ?_⟩
  all_goals simp [triBox]

/-- Settles O44: the interpolation is a mean of the vertex values, and rounding keeps it between whole bounds. -/
theorem interpolationInRange : Obligations.InterpolationInRange := by
  intro p0 p1 p2 t x y h hc a0 a1 a2
  apply interp_mem (windTri_wound h) hc <;> omega

/-- Settles O42: both triangles have the shared edge, in opposite directions, and the fill rule takes one of them. -/
theorem sharedEdgeOnce : Obligations.SharedEdgeOnce := by
  intro p0 p1 p2 p3 a b x y ha hb hsides
  have sideA := orient_rotate p0 p1 p2
  rcases covers_windTri ha x y with ⟨posA, coversA⟩ | ⟨negA, coversA⟩
  · rw [sideA] at hsides
    have negB : orient p1 p2 p3.x p3.y < 0 := neg_of_mul_neg_right hsides posA.le
    rcases covers_windTri hb x y with ⟨posB, -⟩ | ⟨-, coversB⟩
    · omega
    · rw [coversA, coversB, ← inside_rotate p0 p1 p2, inside_rotate p2 p1 p3]
      exact shared_edge (sideA ▸ posA) negB x y
  · rw [sideA] at hsides
    have posB : 0 < orient p1 p2 p3.x p3.y := pos_of_mul_neg_right hsides negA.le
    rcases covers_windTri hb x y with ⟨-, coversB⟩ | ⟨negB, -⟩
    · rw [coversA, coversB, ← inside_rotate p0 p2 p1]
      obtain ⟨once, edge⟩ := shared_edge (a := p0) (b := p2) (c := p1) (d := p3)
        (by rw [orient_reverse, sideA]; omega) (by rw [orient_reverse]; omega) x y
      exact ⟨once, fun hon hbetween => edge (by rw [orient_reverse, hon, neg_zero]) (by linarith)⟩
    · omega

end

section

open Sys2Proof Sys2Proof.Machine Sys2Proof.Claims

/-! ## The clamp, the bounding box and the order of the vertices (O40, O41, O45) -/

namespace Sys2Proof.Machine

/-! ### The clamp (R234) -/

/-- The coordinate does not depend on the texture coordinate that moves with it. -/
theorem clampAxis_fst (lo hi p t : Int) : (clampAxis lo hi p t).1 = min (max p lo) hi := by
  by_cases low : p < lo
  · simp only [clampAxis, if_pos low]
    split <;> omega
  · simp only [clampAxis, if_neg low]
    split <;> omega

theorem clampVertex_x (e : DrawEnv) (p : PVertex) :
    (clampVertex e p).x = min (max p.x e.areaLeft.toNat) e.areaRight.toNat := clampAxis_fst ..

theorem clampVertex_y (e : DrawEnv) (p : PVertex) :
    (clampVertex e p).y = min (max p.y e.areaTop.toNat) e.areaBottom.toNat := clampAxis_fst ..

/-- The clamped vertex lies within the coordinates the area's registers can hold (R33). -/
theorem clampVertex_mem (e : DrawEnv) (p : PVertex) :
    (0 ≤ (clampVertex e p).x ∧ (clampVertex e p).x < 1024) ∧ 0 ≤ (clampVertex e p).y ∧ (clampVertex e p).y < 512 := by
  have right := e.areaRight.isLt
  have bottom := e.areaBottom.isLt
  rw [clampVertex_x, clampVertex_y]
  omega

/-! ### The rejection by size never succeeds (R239) -/

/-- The vertices of a triangle lie on the grid. -/
def Tri.OnGrid (t : Tri) : Prop := ∀ p ∈ [t.p0, t.p1, t.p2], (0 ≤ p.x ∧ p.x < 1024) ∧ 0 ≤ p.y ∧ p.y < 512

theorem wound_onGrid {s : State} {p0 p1 p2 : PVertex} {t : Tri} (h : wound s p0 p1 p2 = some t) : t.OnGrid := by
  rcases windTri_cases h with ⟨-, rfl⟩ | ⟨-, rfl⟩ <;> simp [Tri.OnGrid, clampVertex_mem]

theorem triBox_size {t : Tri} (h : t.OnGrid) :
    (triBox t).xe - (triBox t).xs ≤ 1024 ∧ (triBox t).ye - (triBox t).ys ≤ 512 := by
  simp only [Tri.OnGrid, List.forall_mem_cons] at h
  simp only [triBox]
  omega

theorem triangle_of_none {s : State} {p0 p1 p2 : PVertex} (h : wound s p0 p1 p2 = none) (shaded : Bool)
    (tex : Option TexAttr) (semi : Bool) : triangle p0 p1 p2 shaded tex semi s = s := by
  unfold wound at h
  simp only [triangle, h]

/-- `Triangle` without the rejection (R247). -/
theorem triangle_of_some {s : State} {p0 p1 p2 : PVertex} {t : Tri} (h : wound s p0 p1 p2 = some t) (shaded : Bool)
    (tex : Option TexAttr) (semi : Bool) :
    triangle p0 p1 p2 shaded tex semi s = forSpan (clipSpan s.env (triBox t)) (triPixel t shaded tex semi) s := by
  have small : tooLarge (triBox t) = false := by
    have := triBox_size (wound_onGrid h)
    simp only [tooLarge, decide_eq_false_iff_not]
    omega
  unfold wound at h
  simp only [triangle, h, small, Bool.false_eq_true, if_false]

/-! ### Any order of the vertices (R238, R242, R243) -/

theorem windTri_swap (p0 p1 p2 : PVertex) : windTri p0 p2 p1 = windTri p0 p1 p2 := by
  have swap := orient_swap p0 p1 p2
  rcases lt_trichotomy (orient p0 p1 p2.x p2.y) 0 with neg | zero | pos
  · rw [windTri_neg neg, windTri_pos (by omega), swap]
  · rw [windTri_zero zero, windTri_zero (by omega)]
  · rw [windTri_pos pos, windTri_neg (by omega), swap, neg_neg]

/-- The same triangle, named from its second vertex on. -/
def Tri.rotate (t : Tri) : Tri := ⟨t.p1, t.p2, t.p0, t.area⟩

theorem covers_rotate (t : Tri) (x y : Int) : covers t.rotate x y = covers t x y := by
  rw [Bool.eq_iff_iff, covers_iff, covers_iff]
  exact inside_rotate ..

theorem interp_rotate (t : Tri) (a0 a1 a2 x y : Int) : interp t.rotate a1 a2 a0 x y = interp t a0 a1 a2 x y := by
  have sum : a1 * edge0 t.rotate x y + a2 * edge1 t.rotate x y + a0 * edge2 t.rotate x y =
      a0 * edge0 t x y + a1 * edge1 t x y + a2 * edge2 t x y := by
    simp only [edge0, edge1, edge2, Tri.rotate]
    ring
  simp only [interp, sum]
  rfl

theorem triBox_rotate (t : Tri) : triBox t.rotate = triBox t := by
  simp only [triBox, Tri.rotate, Span.mk.injEq]
  omega

/-- The pixel step is the same from whichever vertex it counts, a flat triangle having one colour (R232). -/
theorem triPixel_rotate {t : Tri} {shaded : Bool} (hc : shaded = true ∨ t.p1.c = t.p0.c) (tex : Option TexAttr)
    (semi : Bool) : triPixel t.rotate shaded tex semi = triPixel t shaded tex semi := by
  have colour (x y : Int) : triColour t.rotate shaded x y = triColour t shaded x y := by
    cases shaded with
    | true =>
      have channel (a0 a1 a2 : BitVec 8) : interpChannel t.rotate a1 a2 a0 x y = interpChannel t a0 a1 a2 x y :=
        congrArg (BitVec.ofInt 8) (interp_rotate ..)
      simp only [triColour, interpColour, if_true]
      exact congr (congrArg₂ Rgb.mk (channel ..) (channel ..)) (channel ..)
    | false => exact hc.resolve_left Bool.false_ne_true
  have texRef (x y : Int) : triTexRef t.rotate tex x y = triTexRef t tex x y := by
    cases tex with
    | none => rfl
    | some a => exact congrArg some (congrArg₂ (TexRef.mk · · a) (interp_rotate ..) (interp_rotate ..))
  funext x y s
  simp only [triPixel, covers_rotate, colour, texRef]

/-- The whole triangle, drawn: nothing for one without area. -/
def drawWound (shaded : Bool) (tex : Option TexAttr) (semi : Bool) (s : State) : Option Tri → State
  | none => s
  | some t => forSpan (clipSpan s.env (triBox t)) (triPixel t shaded tex semi) s

theorem triangle_eq_drawWound (p0 p1 p2 : PVertex) (shaded : Bool) (tex : Option TexAttr) (semi : Bool) (s : State) :
    triangle p0 p1 p2 shaded tex semi s = drawWound shaded tex semi s (wound s p0 p1 p2) := by
  cases h : wound s p0 p1 p2 with
  | none => exact triangle_of_none h ..
  | some t => exact triangle_of_some h ..

theorem drawWound_rotate {t : Tri} {shaded : Bool} (hc : shaded = true ∨ t.p1.c = t.p0.c) (tex : Option TexAttr)
    (semi : Bool) (s : State) :
    drawWound shaded tex semi s (some t.rotate) = drawWound shaded tex semi s (some t) := by
  simp only [drawWound, triBox_rotate, triPixel_rotate hc]

theorem triangle_swap (p0 p1 p2 : PVertex) (shaded : Bool) (tex : Option TexAttr) (semi : Bool) (s : State) :
    triangle p0 p2 p1 shaded tex semi s = triangle p0 p1 p2 shaded tex semi s := by
  rw [triangle_eq_drawWound, triangle_eq_drawWound, wound, windTri_swap, wound]

theorem drawWound_windTri_rotate {p0 p1 p2 : PVertex} {shaded : Bool} (hc : shaded = true ∨ p1.c = p0.c)
    (tex : Option TexAttr) (semi : Bool) (s : State) :
    drawWound shaded tex semi s (windTri p1 p2 p0) = drawWound shaded tex semi s (windTri p0 p1 p2) := by
  have area := orient_rotate p0 p1 p2
  rcases lt_trichotomy (orient p0 p1 p2.x p2.y) 0 with neg | zero | pos
  · rw [windTri_neg neg, windTri_neg (area ▸ neg), area]
    have same : shaded = true ∨ p0.c = p1.c := hc.imp_right Eq.symm
    exact (drawWound_rotate (t := ⟨p1, p0, p2, _⟩) same tex semi s).symm
  · rw [windTri_zero zero, windTri_zero (area ▸ zero)]
  · rw [windTri_pos pos, windTri_pos (area ▸ pos), area]
    exact drawWound_rotate (t := ⟨p0, p1, p2, _⟩) hc tex semi s

theorem triangle_rotate {p0 p1 p2 : PVertex} {shaded : Bool} (hc : shaded = true ∨ p1.c = p0.c)
    (tex : Option TexAttr) (semi : Bool) (s : State) :
    triangle p1 p2 p0 shaded tex semi s = triangle p0 p1 p2 shaded tex semi s := by
  rw [triangle_eq_drawWound, triangle_eq_drawWound, wound, wound]
  exact drawWound_windTri_rotate (p0 := clampVertex s.env p0) (p1 := clampVertex s.env p1) hc tex semi s

/-! ### No area (R238) -/

theorem clampVertex_position {e : DrawEnv} {p q : PVertex} (hx : p.x = q.x) (hy : p.y = q.y) :
    (clampVertex e p).x = (clampVertex e q).x ∧ (clampVertex e p).y = (clampVertex e q).y := by
  rw [clampVertex_x, clampVertex_x, clampVertex_y, clampVertex_y, hx, hy]
  exact ⟨rfl, rfl⟩

/-- The vertices of a 3-point polygon have no area: two are equal, or the clamp puts all three on one line. -/
def Flat (s : State) (a b c : Vertex) : Prop :=
  a = b ∨ b = c ∨ a = c ∨
    (let p0 := clampVertex s.env (vert s a 0 0 ⟨0, 0, 0⟩)
     let p1 := clampVertex s.env (vert s b 0 0 ⟨0, 0, 0⟩)
     let p2 := clampVertex s.env (vert s c 0 0 ⟨0, 0, 0⟩)
     (p1.x - p0.x) * (p2.y - p0.y) = (p1.y - p0.y) * (p2.x - p0.x))

/-- Texture coordinates and colours have no part in it. -/
theorem wound_of_flat {s : State} {a b c : Vertex} (h : Flat s a b c) (u0 w0 u1 w1 u2 w2 : Int) (c0 c1 c2 : Rgb) :
    wound s (vert s a u0 w0 c0) (vert s b u1 w1 c1) (vert s c u2 w2 c2) = none := by
  apply windTri_zero
  have place (v : Vertex) (u w : Int) (col : Rgb) := clampVertex_position (e := s.env)
    (p := vert s v u w col) (q := vert s v 0 0 ⟨0, 0, 0⟩) rfl rfl
  rw [orient, (place a ..).1, (place a ..).2, (place b ..).1, (place b ..).2, (place c ..).1, (place c ..).2]
  rcases h with rfl | rfl | rfl | line
  · ring
  · ring
  · ring
  · exact sub_eq_zero.mpr line

theorem triangle_of_flat {s : State} {a b c : Vertex} (h : Flat s a b c) (u0 w0 u1 w1 u2 w2 : Int) (c0 c1 c2 : Rgb)
    (shaded : Bool) (tex : Option TexAttr) (semi : Bool) :
    triangle (vert s a u0 w0 c0) (vert s b u1 w1 c1) (vert s c u2 w2 c2) shaded tex semi s = s :=
  triangle_of_none (wound_of_flat h ..) ..

/-! ### The 32 polygon commands by operand shape (R231)

An untextured command comes with `semi`, a textured one with `semi` and `raw`. -/

def polyF3Commands : List ((PolyF3 → Instr) × Bool) :=
  [(.polyF3, false), (.polyF3At21, false), (.polyF3S, true), (.polyF3SAt23, true)]

def polyF4Commands : List ((PolyF4 → Instr) × Bool) :=
  [(.polyF4, false), (.polyF4At29, false), (.polyF4S, true), (.polyF4SAt2b, true)]

def polyFT3Commands : List ((PolyFT3 → Instr) × Bool × Bool) :=
  [(.polyFT3, false, false), (.polyFT3R, false, true), (.polyFT3S, true, false), (.polyFT3SR, true, true)]

def polyFT4Commands : List ((PolyFT4 → Instr) × Bool × Bool) :=
  [(.polyFT4, false, false), (.polyFT4R, false, true), (.polyFT4S, true, false), (.polyFT4SR, true, true)]

def polyG3Commands : List ((PolyG3 → Instr) × Bool) :=
  [(.polyG3, false), (.polyG3At31, false), (.polyG3S, true), (.polyG3SAt33, true)]

def polyG4Commands : List ((PolyG4 → Instr) × Bool) :=
  [(.polyG4, false), (.polyG4At39, false), (.polyG4S, true), (.polyG4SAt3b, true)]

def polyGT3Commands : List ((PolyGT3 → Instr) × Bool × Bool) :=
  [(.polyGT3, false, false), (.polyGT3R, false, true), (.polyGT3S, true, false), (.polyGT3SR, true, true)]

def polyGT4Commands : List ((PolyGT4 → Instr) × Bool × Bool) :=
  [(.polyGT4, false, false), (.polyGT4R, false, true), (.polyGT4S, true, false), (.polyGT4SR, true, true)]

theorem forall_mem_four {α : Type} {P : α → Prop} {a b c d : α} (ha : P a) (hb : P b) (hc : P c) (hd : P d) :
    ∀ k ∈ [a, b, c, d], P k := by
  simp [ha, hb, hc, hd]

/-! Every command of a shape draws that shape with its bits. -/

theorem exec_polyF3 (o : PolyF3) (s : State) : ∀ k ∈ polyF3Commands, exec (k.1 o) s = .next (drawPolyF3 o k.2 s) :=
  forall_mem_four rfl rfl rfl rfl

theorem exec_polyF4 (o : PolyF4) (s : State) : ∀ k ∈ polyF4Commands, exec (k.1 o) s = .next (drawPolyF4 o k.2 s) :=
  forall_mem_four rfl rfl rfl rfl

theorem exec_polyFT3 (o : PolyFT3) (s : State) :
    ∀ k ∈ polyFT3Commands, exec (k.1 o) s = .next (drawPolyFT3 o k.2.1 k.2.2 s) :=
  forall_mem_four rfl rfl rfl rfl

theorem exec_polyFT4 (o : PolyFT4) (s : State) :
    ∀ k ∈ polyFT4Commands, exec (k.1 o) s = .next (drawPolyFT4 o k.2.1 k.2.2 s) :=
  forall_mem_four rfl rfl rfl rfl

theorem exec_polyG3 (o : PolyG3) (s : State) : ∀ k ∈ polyG3Commands, exec (k.1 o) s = .next (drawPolyG3 o k.2 s) :=
  forall_mem_four rfl rfl rfl rfl

theorem exec_polyG4 (o : PolyG4) (s : State) : ∀ k ∈ polyG4Commands, exec (k.1 o) s = .next (drawPolyG4 o k.2 s) :=
  forall_mem_four rfl rfl rfl rfl

theorem exec_polyGT3 (o : PolyGT3) (s : State) :
    ∀ k ∈ polyGT3Commands, exec (k.1 o) s = .next (drawPolyGT3 o k.2.1 k.2.2 s) :=
  forall_mem_four rfl rfl rfl rfl

theorem exec_polyGT4 (o : PolyGT4) (s : State) :
    ∀ k ∈ polyGT4Commands, exec (k.1 o) s = .next (drawPolyGT4 o k.2.1 k.2.2 s) :=
  forall_mem_four rfl rfl rfl rfl

end Sys2Proof.Machine

/-- Settles O45: the clamp leaves no vertex outside the grid. -/
theorem boxNeverRejected : Obligations.BoxNeverRejected :=
  fun _ _ _ _ _ h => triBox_size (wound_onGrid h)

/-- Settles O40: the exchange leaves the wound triangle as it is, the rotation names it from another vertex. -/
theorem windingInvariant : Obligations.WindingInvariant := by
  intro s
  refine ⟨fun k hk o => ?_, fun k hk o => ?_, fun k hk o => ?_, fun k hk o => ?_⟩
  · obtain ⟨k, hmem, rfl⟩ := List.mem_map.mp (show k ∈ polyF3Commands.map Prod.fst from hk)
    simp only [exec_polyF3 _ s k hmem]
    have colour : (plainVertex s o.v1 o.c).c = (plainVertex s o.v0 o.c).c := rfl
    exact ⟨congrArg _ (triangle_swap ..), congrArg _ (triangle_rotate (.inr colour) ..)⟩
  · obtain ⟨k, hmem, rfl⟩ := List.mem_map.mp (show k ∈ polyG3Commands.map Prod.fst from hk)
    simp only [exec_polyG3 _ s k hmem]
    exact ⟨congrArg _ (triangle_swap ..), congrArg _ (triangle_rotate (.inl rfl) ..)⟩
  · obtain ⟨k, hmem, rfl⟩ := List.mem_map.mp (show k ∈ polyFT3Commands.map Prod.fst from hk)
    simp only [exec_polyFT3 _ s k hmem]
    have colour : (texVertex s o.v1 o.t1 o.c).c = (texVertex s o.v0 o.t0 o.c).c := rfl
    exact ⟨congrArg _ (triangle_swap ..), congrArg _ (triangle_rotate (.inr colour) ..)⟩
  · obtain ⟨k, hmem, rfl⟩ := List.mem_map.mp (show k ∈ polyGT3Commands.map Prod.fst from hk)
    simp only [exec_polyGT3 _ s k hmem]
    exact ⟨congrArg _ (triangle_swap ..), congrArg _ (triangle_rotate (.inl rfl) ..)⟩

/-- Settles O41: a triangle without area is not drawn. -/
theorem zeroAreaDrawsNothing : Obligations.ZeroAreaDrawsNothing := by
  intro s flat
  refine ⟨fun k hk o h => ?_, fun k hk o h => ?_, fun k hk o h => ?_, fun k hk o h => ?_⟩
  · obtain ⟨k, hmem, rfl⟩ := List.mem_map.mp (show k ∈ polyF3Commands.map Prod.fst from hk)
    exact (exec_polyF3 o s k hmem).trans (congrArg _ (triangle_of_flat h ..))
  · obtain ⟨k, hmem, rfl⟩ := List.mem_map.mp (show k ∈ polyG3Commands.map Prod.fst from hk)
    exact (exec_polyG3 o s k hmem).trans (congrArg _ (triangle_of_flat h ..))
  · obtain ⟨k, hmem, rfl⟩ := List.mem_map.mp (show k ∈ polyFT3Commands.map Prod.fst from hk)
    exact (exec_polyFT3 o s k hmem).trans (congrArg _ (triangle_of_flat h ..))
  · obtain ⟨k, hmem, rfl⟩ := List.mem_map.mp (show k ∈ polyGT3Commands.map Prod.fst from hk)
    exact (exec_polyGT3 o s k hmem).trans (congrArg _ (triangle_of_flat h ..))

end

section

open Sys2Proof Sys2Proof.Machine Sys2Proof.Claims

/-! ## Spans pixel by pixel (O38, O39)

A span is one scan of its pixels, row by row; when every step repaints its own pixel, each pixel is repainted once. -/

namespace Sys2Proof.Machine

/-! ### Loops (R15, R245) -/

theorem forCount_add (m n : Nat) (f : Nat → State → State) (s : State) :
    forCount (m + n) f s = forCount n (fun i => f (m + i)) (forCount m f s) := by
  induction n with
  | zero => rfl
  | succ n ih => rw [← Nat.add_assoc, forCount_succ, forCount_succ, ih]

theorem forCount_congr {n : Nat} {f g : Nat → State → State} (h : ∀ i, i < n → f i = g i) (s : State) :
    forCount n f s = forCount n g s := by
  induction n with
  | zero => rfl
  | succ n ih => rw [forCount_succ, forCount_succ, ih fun i hi => h i (by omega), h n (by omega)]

/-- After a fault no iteration runs. -/
theorem forCount_dead {s : State} (h : live s = false) (n : Nat) (f : Nat → State → State) : forCount n f s = s := by
  induction n with
  | zero => rfl
  | succ n ih => rw [forCount_succ, ih, h, if_neg Bool.false_ne_true]

/-- The two nested loops are one: step `n` is column `n mod w` of row `n div w`. -/
theorem forGrid_eq_forCount (w h : Nat) (f : Nat → Nat → State → State) (s : State) :
    forGrid w h f s = forCount (w * h) (fun n => f (n % w) (n / w)) s := by
  induction h with
  | zero => rfl
  | succ h ih =>
    have row : forCount w (fun i => f ((w * h + i) % w) ((w * h + i) / w)) = forCount w fun i => f i h := by
      funext t
      refine forCount_congr (fun i hi => ?_) t
      rw [Nat.mul_add_mod, Nat.mod_eq_of_lt hi, Nat.mul_add_div (by omega), Nat.div_eq_of_lt hi, Nat.add_zero]
    rw [Nat.mul_succ, forCount_add, ← ih, row, forGrid, forCount_succ]
    split
    · rfl
    · rename_i hdead
      exact (forCount_dead (Bool.eq_false_iff.mpr hdead) ..).symm

theorem forSpan_eq_scan (b : Span) (f : Int → Int → State → State) (s : State) : forSpan b f s = scan b f s := by
  simp only [forSpan, forGrid_eq_forCount, forCount, scan, live, Option.isNone_iff_eq_none]

theorem scan_halted {s : State} (h : s.halted ≠ none) (b : Span) (f : Int → Int → State → State) :
    scan b f s = s := by
  rw [← forSpan_eq_scan, forSpan, forGrid_eq_forCount]
  exact forCount_dead (Bool.eq_false_iff.mpr (mt (live_iff s).mp h)) ..

/-! ### The pixels of a span, in order -/

/-- The pixels of a span, rows top to bottom, each row left to right (R245). -/
def spanPixels (b : Span) : List (Int × Int) :=
  (List.range ((b.xe - b.xs).toNat * (b.ye - b.ys).toNat)).map fun n =>
    (b.xs + (n % (b.xe - b.xs).toNat : Nat), b.ys + (n / (b.xe - b.xs).toNat : Nat))

theorem forSpan_eq_foldl (b : Span) (f : Int → Int → State → State) (s : State) :
    forSpan b f s = (spanPixels b).foldl (fun t p => if live t then f p.1 p.2 t else t) s := by
  rw [forSpan, forGrid_eq_forCount, spanPixels, List.foldl_map]
  rfl

theorem mem_spanPixels {b : Span} {x y : Int} :
    (x, y) ∈ spanPixels b ↔ b.xs ≤ x ∧ x < b.xe ∧ b.ys ≤ y ∧ y < b.ye := by
  simp only [spanPixels, List.mem_map, List.mem_range, Prod.mk.injEq]
  constructor
  · rintro ⟨n, hn, rfl, rfl⟩
    have width : 0 < (b.xe - b.xs).toNat := Nat.pos_of_mul_pos_right (Nat.zero_lt_of_lt hn)
    have column := Nat.mod_lt n width
    have row := Nat.div_lt_of_lt_mul hn
    generalize n % (b.xe - b.xs).toNat = i at column ⊢
    generalize n / (b.xe - b.xs).toNat = j at row ⊢
    omega
  · intro ⟨h1, h2, h3, h4⟩
    refine ⟨(b.xe - b.xs).toNat * (y - b.ys).toNat + (x - b.xs).toNat, ?_, ?_, ?_⟩
    · have rows : (y - b.ys).toNat + 1 ≤ (b.ye - b.ys).toNat := by omega
      have := Nat.mul_le_mul_left (b.xe - b.xs).toNat rows
      rw [Nat.mul_succ] at this
      omega
    · rw [Nat.mul_add_mod, Nat.mod_eq_of_lt (by omega)]
      omega
    · rw [Nat.mul_add_div (by omega), Nat.div_eq_of_lt (by omega)]
      omega

theorem spanPixels_nodup (b : Span) : (spanPixels b).Nodup := by
  refine List.nodup_range.map fun m n h => ?_
  simp only [Prod.mk.injEq, add_right_inj, Nat.cast_inj] at h
  rw [← Nat.div_add_mod m (b.xe - b.xs).toNat, h.1, h.2, Nat.div_add_mod]

/-! ### Repainting one pixel -/

/-- `t` is `s` with the pixel at `(x, y)` repainted by `g`. -/
structure Repainted (x y : Int) (g : Pixel → Pixel) (s t : State) : Prop where
  onlyVram : t = { s with vram := t.vram }
  pixel : ∀ k, pixelNo x y = some k → pixelOf t k = g (pixelOf s k)
  others : ∀ k, pixelNo x y ≠ some k → pixelOf t k = pixelOf s k

theorem Repainted.same {x y : Int} {g : Pixel → Pixel} {s : State}
    (h : ∀ k, pixelNo x y = some k → g (pixelOf s k) = pixelOf s k) : Repainted x y g s s :=
  ⟨rfl, fun k hk => (h k hk).symm, fun _ _ => rfl⟩

theorem Repainted.put {x y : Int} {g : Pixel → Pixel} {s : State} {k : Nat} (hk : pixelNo x y = some k) :
    Repainted x y g s { s with vram := putCell k (g (pixelOf s k)) s.vram } := by
  refine ⟨rfl, fun j hj => ?_, fun j hj => pixelOf_put_ne s (by rintro rfl; exact hj hk) _⟩
  obtain rfl : k = j := Option.some.inj (hk.symm.trans hj)
  exact pixelOf_put_self s k _

/-- Steps that each repaint their own pixel repaint every listed pixel once, and no other. -/
theorem foldl_repainted {g : Int → Int → Pixel → Pixel} {f : Int → Int → State → State} {l : List (Int × Int)}
    (hl : l.Nodup) {s : State} (hs : s.halted = none)
    (hf : ∀ x y, (x, y) ∈ l → ∀ v, Repainted x y (g x y) { s with vram := v } (f x y { s with vram := v })) :
    let t := l.foldl (fun t p => if live t then f p.1 p.2 t else t) s
    t = { s with vram := t.vram } ∧
      ∀ x y k, pixelNo x y = some k → pixelOf t k = if (x, y) ∈ l then g x y (pixelOf s k) else pixelOf s k := by
  induction l generalizing s with
  | nil => exact ⟨rfl, fun _ _ _ _ => rfl⟩
  | cons p l ih =>
    obtain ⟨x0, y0⟩ := p
    obtain ⟨hp, hl⟩ := List.nodup_cons.mp hl
    have first : Repainted x0 y0 (g x0 y0) s (f x0 y0 s) := hf x0 y0 (by simp) s.vram
    have keep := first.onlyVram
    generalize hu : f x0 y0 s = u at first keep
    rw [List.foldl_cons, if_pos ((live_iff s).mpr hs), hu]
    obtain ⟨only, pixels⟩ := ih hl (s := u) (by rw [keep]; exact hs) fun x y hxy v => by
      rw [keep]
      exact hf x y (by simp [hxy]) v
    refine ⟨only.trans (by rw [keep]), fun x y k hk => ?_⟩
    rw [pixels x y k hk]
    by_cases h0 : (x, y) = (x0, y0)
    · cases h0
      rw [if_neg hp, if_pos (by simp), first.pixel k hk]
    · have other : pixelNo x0 y0 ≠ some k := fun h => h0 (Prod.ext_iff.mpr (pixelNo_inj hk h))
      rw [first.others k other]
      simp [h0]

theorem pixelNo_of_lt {x y : Nat} (hx : x < 1024) (hy : y < 512) : pixelNo x y = some (y * 1024 + x) := by
  unfold pixelNo
  rw [if_pos (by omega)]
  simp

theorem forSpan_repainted {g : Int → Int → Pixel → Pixel} {f : Int → Int → State → State} {b : Span} {s : State}
    (hs : s.halted = none)
    (hf : ∀ x y, b.xs ≤ x ∧ x < b.xe ∧ b.ys ≤ y ∧ y < b.ye → ∀ v,
      Repainted x y (g x y) { s with vram := v } (f x y { s with vram := v })) :
    forSpan b f s = { s with vram := (forSpan b f s).vram } ∧
      ∀ x y : Nat, x < 1024 → y < 512 →
        px (forSpan b f s) x y =
          if b.xs ≤ x ∧ x < b.xe ∧ b.ys ≤ y ∧ y < b.ye then g x y (px s x y) else px s x y := by
  obtain ⟨only, pixels⟩ := foldl_repainted (spanPixels_nodup b) hs fun x y hxy => hf x y (mem_spanPixels.mp hxy)
  rw [forSpan_eq_foldl]
  refine ⟨only, fun x y hx hy => ?_⟩
  have := pixels x y (y * 1024 + x) (pixelNo_of_lt hx hy)
  simpa only [px, mem_spanPixels] using this

end Sys2Proof.Machine

end

section

open Sys2Proof Sys2Proof.Machine Sys2Proof.Claims

/-! ## The polygon commands (O38, O39) -/

namespace Sys2Proof.Machine

/-! ### One pixel of the pipeline (R400 to R408) -/

theorem semiChannel_eq_mix (mode : BitVec 2) (bg fg : BitVec 8) :
    semiChannel mode bg fg = BitVec.ofNat 8 (mix mode bg.toNat fg.toNat) := by
  have modes : ∀ m : BitVec 2, m = 0#2 ∨ m = 1#2 ∨ m = 2#2 ∨ m = 3#2 := by decide
  rcases modes mode with rfl | rfl | rfl | rfl
  · exact congrArg (BitVec.ofNat 8) (Nat.shiftRight_eq_div_pow _ 1)
  · rfl
  · rfl
  · exact congrArg (fun n => BitVec.ofNat 8 (min (bg.toNat + n) 255)) (Nat.shiftRight_eq_div_pow _ 2)

/-- The colour that is written, with its 15-bit form, is the one the statements speak of. -/
theorem written_eq_blended (st : Status) (blend : Bool) (c : C24) (old : Pixel) :
    written st blend c old = ⟨blended st old.c24 c blend, narrow (blended st old.c24 c blend)⟩ := by
  cases blend with
  | false => rfl
  | true => simp only [written, blended, semiBlend, semiChannel_eq_mix, if_true]

theorem pixelAt_of_pixelNo {x y : Int} {k : Nat} (hk : pixelNo x y = some k) (s : State) :
    pixelAt s x y = .ok (pixelOf s k) := by
  simp [pixelAt, hk]

theorem setPix24_of_pixelNo {x y : Int} {k : Nat} (hk : pixelNo x y = some k) (c : C24) (s : State) :
    setPix24 x y c s = { s with vram := putCell k ⟨c, narrow c⟩ s.vram } := by
  simp [setPix24, setPixel, hk]

/-- An untextured pixel inside the grid (R400, R402, R404, R408). -/
theorem drawPixel_untextured {x y : Int} {k : Nat} (hk : pixelNo x y = some k) (c : Rgb) (semi : Bool) (s : State) :
    Repainted x y (plain s.st semi c) s (drawPixel x y c none semi s) := by
  simp only [drawPixel, pixelAt_of_pixelNo hk, foreground, Bool.and_true]
  split
  · rename_i kept
    refine .same fun j hj => ?_
    obtain rfl : k = j := Option.some.inj (hk.symm.trans hj)
    exact if_pos (by simpa using kept)
  · rename_i drawn
    have value : plain s.st semi c (pixelOf s k) = written s.st semi ⟨false, c.r, c.g, c.b⟩ (pixelOf s k) :=
      if_neg (by simpa using drawn)
    rw [setPix24_of_pixelNo hk, ← written_eq_blended, ← value]
    exact .put hk

/-! ### A texture inside the grid (R390) -/

theorem pixelAt_ok_of_lt (s : State) {x y : Nat} (hx : x < 1024) (hy : y < 512) :
    ∃ p, pixelAt s x y = .ok p := ⟨_, pixelAt_onGrid s ⟨hx, hy⟩⟩

theorem sample_of_fits {a : TexAttr} (ha : a.fits) (s : State) (u v : BitVec 8) : ∃ p, sample s u v a = .ok p := by
  have hu := u.isLt
  have hv := v.isLt
  unfold TexAttr.fits at ha
  unfold sample
  generalize a.depth.toNat = depth at ha ⊢
  match depth with
  | 0 =>
    obtain ⟨pageX, clutX, pageY, clutY⟩ := ha
    obtain ⟨w, hw⟩ := pixelAt_ok_of_lt s (x := a.pageX + u.toNat / 4) (y := a.pageY + v.toNat) (by omega) (by omega)
    have index : nibbleIndex w.p15 u < 16 := Nat.mod_lt _ (by decide)
    simp only [hw]
    exact pixelAt_ok_of_lt s (by omega) (by omega)
  | 1 =>
    obtain ⟨pageX, clutX, pageY, clutY⟩ := ha
    obtain ⟨w, hw⟩ := pixelAt_ok_of_lt s (x := a.pageX + u.toNat / 2) (y := a.pageY + v.toNat) (by omega) (by omega)
    have index : byteIndex w.p15 u < 256 := Nat.mod_lt _ (by decide)
    simp only [hw]
    exact pixelAt_ok_of_lt s (by omega) (by omega)
  | n + 2 =>
    obtain ⟨pageX, pageY⟩ := ha
    exact pixelAt_ok_of_lt s (by omega) (by omega)

/-- A pixel of the drawing area with a texture inside the grid raises no fault. -/
theorem drawPixel_noFault {x y : Int} {k : Nat} (hk : pixelNo x y = some k) (base : Rgb) {r : TexRef}
    (hr : r.attr.fits) (semi : Bool) {s : State} (hs : s.halted = none) :
    (drawPixel x y base (some r) semi s).halted = none := by
  obtain ⟨p, hp⟩ := sample_of_fits hr s (texelCoord s.env.preMaskX s.env.postMaskX r.u)
    (texelCoord s.env.preMaskY s.env.postMaskY r.v)
  simp only [drawPixel, pixelAt_of_pixelNo hk, foreground, hp]
  split
  · exact hs
  · by_cases transparent : p.p15 = 0#16
    · simpa [transparent] using hs
    · simpa [transparent, setPix24_of_pixelNo hk] using hs

/-! ### The triangle -/

/-- The pixels of a clipped span lie in the drawing area (R240). -/
theorem mem_clipSpan {e : DrawEnv} {b : Span} {x y : Int} :
    ((clipSpan e b).xs ≤ x ∧ x < (clipSpan e b).xe ∧ (clipSpan e b).ys ≤ y ∧ y < (clipSpan e b).ye) ↔
      InArea e x y ∧ b.xs ≤ x ∧ x < b.xe ∧ b.ys ≤ y ∧ y < b.ye := by
  simp only [clipSpan, InArea]
  omega

/-- What one step of the walk makes of its pixel, untextured. -/
def triPixelPaint (st : Status) (t : Tri) (shaded semi : Bool) (x y : Int) (old : Pixel) : Pixel :=
  if covers t x y then plain st semi (triColour t shaded x y) old else old

theorem triPixel_untextured {x y : Int} {k : Nat} (hk : pixelNo x y = some k) (t : Tri) (shaded semi : Bool)
    (s : State) : Repainted x y (triPixelPaint s.st t shaded semi x y) s (triPixel t shaded none semi x y s) := by
  unfold triPixel triPixelPaint
  split
  · exact drawPixel_untextured hk ..
  · exact .same fun _ _ => rfl

/-- A 3-point untextured polygon (R240, R242, R247). -/
theorem triangle_untextured {s : State} (hs : s.halted = none) (p0 p1 p2 : PVertex) (shaded semi : Bool) :
    TriDrawn s (triangle p0 p1 p2 shaded none semi s) p0 p1 p2 shaded semi := by
  cases h : wound s p0 p1 p2 with
  | none =>
    rw [triangle_of_none h]
    exact ⟨rfl, fun x y _ _ => by simp only [triPaint, h]⟩
  | some t =>
    rw [triangle_of_some h]
    obtain ⟨only, pixels⟩ := forSpan_repainted (b := clipSpan s.env (triBox t)) (f := triPixel t shaded none semi)
      (g := triPixelPaint s.st t shaded semi) hs fun x y ⟨left, right, top, bottom⟩ v => by
        have area := clipSpan_inArea left right top bottom
        exact triPixel_untextured (pixelNo_of_inArea area) t shaded semi { s with vram := v }
    refine ⟨only, fun x y hx hy => ?_⟩
    rw [pixels x y hx hy]
    cases hc : covers t x y <;> simp [triPaint, h, mem_clipSpan, triPixelPaint, triColour, hc, and_assoc]

theorem quad_untextured {s : State} (hs : s.halted = none) (p0 p1 p2 p3 : PVertex) (shaded semi : Bool) :
    QuadDrawn s (quad p0 p1 p2 p3 shaded none semi s) p0 p1 p2 p3 shaded semi := by
  have first := triangle_untextured hs p0 p1 p2 shaded semi
  simp only [quad]
  generalize triangle p0 p1 p2 shaded none semi s = u at first ⊢
  obtain ⟨onlyFirst, pixelsFirst⟩ := first
  have hu : u.halted = none := by rw [onlyFirst]; exact hs
  obtain ⟨onlySecond, pixelsSecond⟩ := triangle_untextured hu p1 p2 p3 shaded semi
  rw [if_pos ((live_iff u).mpr hu)]
  refine ⟨onlySecond.trans (by rw [onlyFirst]), fun x y hx hy => ?_⟩
  have paint : triPaint u p1 p2 p3 shaded semi = triPaint s p1 p2 p3 shaded semi := by rw [onlyFirst]; rfl
  rw [pixelsSecond x y hx hy, pixelsFirst x y hx hy, paint]

/-- A textured triangle (R243 to R248). -/
theorem triangle_textured (p0 p1 p2 : PVertex) (shaded : Bool) (a : TexAttr) (semi : Bool) (s : State) :
    triangle p0 p1 p2 shaded (some a) semi s = triScan s p0 p1 p2 shaded a semi s := by
  cases h : wound s p0 p1 p2 with
  | none =>
    rw [triangle_of_none h]
    simp only [triScan, h]
  | some t =>
    rw [triangle_of_some h, forSpan_eq_scan]
    simp only [triScan, h]
    rfl

theorem triScan_halted {u : State} (hu : u.halted ≠ none) (s : State) (p0 p1 p2 : PVertex) (shaded : Bool)
    (a : TexAttr) (semi : Bool) : triScan s p0 p1 p2 shaded a semi u = u := by
  unfold triScan
  split
  · rfl
  · exact scan_halted hu ..

/-- A scan sees only the environment of the state it is written with. -/
theorem triScan_env {s s' : State} (h : s'.env = s.env) (p0 p1 p2 : PVertex) (shaded : Bool) (a : TexAttr)
    (semi : Bool) : triScan s' p0 p1 p2 shaded a semi = triScan s p0 p1 p2 shaded a semi := by
  funext u
  simp only [triScan, wound, cutToArea, h]

theorem quad_textured (p0 p1 p2 p3 : PVertex) (shaded : Bool) (a : TexAttr) (semi : Bool) (s : State) :
    quad p0 p1 p2 p3 shaded (some a) semi s =
      triScan s p1 p2 p3 shaded a semi (triScan s p0 p1 p2 shaded a semi s) := by
  have env := (triangle_painted p0 p1 p2 shaded (some a) semi s).onlyVram.env
  simp only [quad]
  rw [triangle_textured] at env ⊢
  split
  · rw [triangle_textured, triScan_env env]
  · rename_i hdead
    exact (triScan_halted (mt (live_iff _).mpr hdead) ..).symm

theorem triScan_noFault {a : TexAttr} (ha : a.fits) (s : State) (p0 p1 p2 : PVertex) (shaded semi : Bool) {u : State}
    (hu : u.halted = none) : (triScan s p0 p1 p2 shaded a semi u).halted = none := by
  unfold triScan
  split
  · exact hu
  · rw [← forSpan_eq_scan]
    refine forSpan_inv (P := fun t => t.halted = none) (fun x y h1 h2 h3 h4 t _ ht => ?_) hu
    have area := clipSpan_inArea h1 h2 h3 h4
    split
    · exact drawPixel_noFault (pixelNo_of_inArea area) _ ha semi ht
    · exact ht

end Sys2Proof.Machine

/-- Settles O38: every step repaints its own pixel, so a span repaints each of its pixels once. -/
theorem untexturedPolygons : Obligations.UntexturedPolygons := by
  intro s hs
  refine ⟨fun k hk o => ⟨_, exec_polyF3 o s k hk, ?_⟩, fun k hk o => ⟨_, exec_polyG3 o s k hk, ?_⟩,
    fun k hk o => ⟨_, exec_polyF4 o s k hk, ?_⟩, fun k hk o => ⟨_, exec_polyG4 o s k hk, ?_⟩⟩
  · exact triangle_untextured hs ..
  · exact triangle_untextured hs ..
  · exact quad_untextured hs ..
  · exact quad_untextured hs ..

/-- Settles O39: a span is one scan, the second triangle starts where the first ends, and a texture inside the grid is
always found. -/
theorem texturedPolygons : Obligations.TexturedPolygons := by
  intro s hs
  refine ⟨fun k hk o => ?_, fun k hk o => ?_, fun k hk o => ?_, fun k hk o => ?_⟩
  · exact ⟨(exec_polyFT3 o s k hk).trans (congrArg _ (triangle_textured ..)),
      fun ha => triScan_noFault ha _ _ _ _ _ _ hs⟩
  · exact ⟨(exec_polyGT3 o s k hk).trans (congrArg _ (triangle_textured ..)),
      fun ha => triScan_noFault ha _ _ _ _ _ _ hs⟩
  · exact ⟨(exec_polyFT4 o s k hk).trans (congrArg _ (quad_textured ..)),
      fun ha => triScan_noFault ha _ _ _ _ _ _ (triScan_noFault ha _ _ _ _ _ _ hs)⟩
  · exact ⟨(exec_polyGT4 o s k hk).trans (congrArg _ (quad_textured ..)),
      fun ha => triScan_noFault ha _ _ _ _ _ _ (triScan_noFault ha _ _ _ _ _ _ hs)⟩

end

section

open Sys2Proof Sys2Proof.Machine Sys2Proof.Claims

/-! ## What drawing commands, the fill and the copy leave alone (O48) -/

namespace Sys2Proof.Machine

theorem Painted.px_out {A : Int → Int → Prop} {s t : State} (h : Painted A s t) {x y : Nat} (hx : x < 1024)
    (hy : y < 512) (hA : ¬ A x y) : px t x y = px s x y := by
  refine h.pixelOf_out fun x' y' ha hk => hA ?_
  obtain ⟨rfl, rfl⟩ := pixelNo_inj hk (pixelNo_of_lt hx hy)
  exact ha

theorem area_iff_inArea (e : DrawEnv) (x y : Int) : Area e x y ↔ InArea e x y := decide_eq_true_iff

theorem inRect_iff_inBlock (p : PosXY) (z : SizeWH) (x y : Int) :
    InRect p z x y ↔ InBlock p.x.toNat p.y.toNat z.w.toNat z.h.toNat x y := by
  simp only [InRect, InBlock, Nat.cast_add]

end Sys2Proof.Machine

/-- Settles O48: every step of these commands touches one pixel of the area, the block or the destination; a copy of
zero size only raises its fault. -/
theorem drawingFrame : Obligations.DrawingFrame := by
  refine ⟨fun i s hd => ?_, fun o s => ?_, fun o s => ?_⟩
  · obtain ⟨t, ht⟩ := exec_next i s
    have painted := exec_draws_painted hd ht
    exact ⟨t, ht, painted.onlyVram, fun x y hx hy hout => painted.px_out hx hy (mt (area_iff_inArea ..).mp hout)⟩
  · have painted := fillRect_painted o s
    exact ⟨_, rfl, painted.onlyVram, fun x y hx hy hout => painted.px_out hx hy (mt (inRect_iff_inBlock ..).mp hout)⟩
  · refine ⟨_, rfl, ?_⟩
    cases o.size.nonzero with
    | false => exact ⟨OnlyVram.raise _ s, fun _ _ _ _ _ => rfl⟩
    | true =>
      have painted := copyVramVram_painted o s
      exact ⟨painted.onlyVram, fun x y hx hy hout => painted.px_out hx hy (mt (inRect_iff_inBlock ..).mp hout)⟩

end

section

open Sys2Proof Sys2Proof.Machine Sys2Proof.Claims

/-! ## The walk of a line (O47) -/

namespace Sys2Proof.Machine

/-- Adding at most the divisor carries at most once. -/
theorem add_div_mod_of_le {l m : Nat} (h : m ≤ l) (n : Nat) (hl : 0 < l) :
    (n + m) / l = (if l ≤ n % l + m then n / l + 1 else n / l) ∧
      (n + m) % l = (if l ≤ n % l + m then n % l + m - l else n % l + m) := by
  have rest := Nat.mod_lt n hl
  have parts := Nat.div_add_mod n l
  rw [Nat.div_mod_unique hl]
  split
  · rw [Nat.mul_succ]
    omega
  · omega

theorem lineMajorX_iff (g : LineGeom) : lineMajorX g = true ↔ (g.x1 - g.x0).natAbs > (g.y1 - g.y0).natAbs :=
  decide_eq_true_iff

theorem lineL_eq_max (g : LineGeom) : lineL g = max (g.x1 - g.x0).natAbs (g.y1 - g.y0).natAbs := by
  simp only [lineL, lineMajorX_iff]
  split <;> omega

theorem lineS_eq_min (g : LineGeom) : lineS g = min (g.x1 - g.x0).natAbs (g.y1 - g.y0).natAbs := by
  simp only [lineS, lineMajorX_iff]
  split <;> omega

theorem lineS_le_lineL (g : LineGeom) : lineS g ≤ lineL g := by
  rw [lineS_eq_min, lineL_eq_max]
  exact min_le_max

/-- A line of major extent 0 is a point. -/
theorem extents_of_lineL_eq_zero {g : LineGeom} (h : lineL g = 0) :
    g.x1 - g.x0 = 0 ∧ g.y1 - g.y0 = 0 ∧ lineS g = 0 := by
  rw [lineL_eq_max] at h
  rw [lineS_eq_min]
  omega

/-- How often the accumulator has overflowed at pixel `i` (R294). -/
def lineMinorSteps (g : LineGeom) (i : Nat) : Nat := (lineL g / 2 + i * lineS g) / lineL g

/-- Where the walk stands at pixel `i`, in closed form (R294). -/
def lineAt (g : LineGeom) (i : Nat) : LineCursor :=
  { x := g.x0 + (g.x1 - g.x0).sign * (if lineMajorX g then i else lineMinorSteps g i : Nat)
    y := g.y0 + (g.y1 - g.y0).sign * (if lineMajorX g then lineMinorSteps g i else i : Nat)
    num := (lineL g / 2 + i * lineS g) % lineL g }

theorem lineAt_zero (g : LineGeom) : lineAt g 0 = lineStart g := by
  have start : lineL g / 2 / lineL g = 0 ∧ lineL g / 2 % lineL g = lineL g / 2 := by
    rcases Nat.eq_zero_or_pos (lineL g) with point | pos
    · simp [point]
    · have half : lineL g / 2 < lineL g := Nat.div_lt_self pos one_lt_two
      exact ⟨Nat.div_eq_of_lt half, Nat.mod_eq_of_lt half⟩
  simp [lineAt, lineStart, lineMinorSteps, start, Nat.shiftRight_eq_div_pow]

/-- The closed form moves as the walk does: the accumulator is the remainder of the division, a carry its quotient's
step. -/
theorem lineStep_lineAt (g : LineGeom) (i : Nat) : lineStep g (lineAt g i) = lineAt g (i + 1) := by
  rcases Nat.eq_zero_or_pos (lineL g) with point | pos
  · obtain ⟨dx, dy, minor⟩ := extents_of_lineL_eq_zero point
    simp [lineStep, lineAt, dx, dy, point, minor]
  · obtain ⟨quotient, remainder⟩ := add_div_mod_of_le (lineS_le_lineL g) (lineL g / 2 + i * lineS g) pos
    rw [Nat.add_assoc, ← Nat.succ_mul] at quotient remainder
    cases hx : lineMajorX g <;> by_cases carry : lineL g ≤ (lineL g / 2 + i * lineS g) % lineL g + lineS g <;>
      simp [lineStep, lineAt, lineMinorSteps, carry, hx, quotient, remainder, mul_add, add_assoc]

theorem lineStep_iterate (g : LineGeom) (i : Nat) : (lineStep g)^[i] (lineStart g) = lineAt g i := by
  induction i with
  | zero => exact (lineAt_zero g).symm
  | succ i ih => rw [Function.iterate_succ_apply', ih, lineStep_lineAt]

/-- Over the whole walk the accumulator overflows as often as the minor extent says. -/
theorem lineMinorSteps_lineL (g : LineGeom) : lineMinorSteps g (lineL g) = lineS g := by
  rcases Nat.eq_zero_or_pos (lineL g) with point | pos
  · obtain ⟨-, -, minor⟩ := extents_of_lineL_eq_zero point
    rw [lineMinorSteps, point, Nat.div_zero, minor]
  · rw [lineMinorSteps, Nat.add_mul_div_left _ _ pos, Nat.div_eq_of_lt (Nat.div_lt_self pos one_lt_two), Nat.zero_add]

theorem lineAt_lineL (g : LineGeom) : (lineAt g (lineL g)).x = g.x1 ∧ (lineAt g (lineL g)).y = g.y1 := by
  have dx := Int.sign_mul_natAbs (g.x1 - g.x0)
  have dy := Int.sign_mul_natAbs (g.y1 - g.y0)
  simp only [lineAt, lineMinorSteps_lineL]
  cases hx : lineMajorX g <;> simp only [lineL, lineS, hx, Bool.false_eq_true, if_true, if_false, dx, dy] <;> omega

end Sys2Proof.Machine

/-- Settles O47: the walk in closed form, taken at its last pixel. -/
theorem lineEndsAtSecondVertex : Obligations.LineEndsAtSecondVertex := by
  intro s a b c0 c1 g c
  obtain ⟨x, y⟩ := lineAt_lineL g
  have last : c = lineAt g (lineL g) := lineStep_iterate g (lineL g)
  rw [last, x, y]
  rfl

end

section

open Sys2Proof Sys2Proof.Machine Sys2Proof.Claims

/-! ## The single-line commands (O46) -/

namespace Sys2Proof.Machine

/-! ### The walk as a list of pixels (R294, R303) -/

/-- The walk is a loop over the pixels in closed form. -/
theorem lineWalk_eq_forCount (g : LineGeom) (semi : Bool) (k i : Nat) (s : State) :
    lineWalk g semi k i (lineAt g i) s = forCount k (fun j => linePixel g semi (i + j) (lineAt g (i + j))) s := by
  induction k generalizing i s with
  | zero => rfl
  | succ k ih =>
    rw [lineWalk, Nat.add_comm k 1, forCount_add, forCount_succ, forCount_zero, lineStep_lineAt, ih]
    cases hs : live s with
    | true => simp only [if_true, Nat.add_zero, Nat.add_assoc]
    | false => simp only [Bool.false_eq_true, if_false, forCount_dead hs]

/-- The number of a pixel of the line, read off its place on the major axis. -/
def lineIndex (g : LineGeom) (x y : Int) : Nat :=
  if lineMajorX g then (x - g.x0).natAbs else (y - g.y0).natAbs

theorem lineIndex_lineAt {g : LineGeom} {i : Nat} (hi : i ≤ lineL g) :
    lineIndex g (lineAt g i).x (lineAt g i).y = i := by
  have steps {d : Int} (hd : d.natAbs = lineL g) : (d.sign * i).natAbs = i := by
    rw [Int.natAbs_mul, Int.natAbs_natCast, Int.natAbs_sign]
    split <;> omega
  cases hx : lineMajorX g with
  | true =>
    have major : (g.x1 - g.x0).natAbs = lineL g := by rw [lineL, if_pos hx]
    simp [lineIndex, lineAt, hx, steps major]
  | false =>
    have major : (g.y1 - g.y0).natAbs = lineL g := by rw [lineL, if_neg (by simp [hx])]
    simp [lineIndex, lineAt, hx, steps major]

/-- The pixels of the line, in order. -/
def linePixels (g : LineGeom) : List (Int × Int) :=
  (List.range (lineL g + 1)).map fun i => ((lineAt g i).x, (lineAt g i).y)

theorem linePixels_nodup (g : LineGeom) : (linePixels g).Nodup := by
  refine List.nodup_range.map_on fun i hi j hj h => ?_
  have hi := List.mem_range.mp hi
  have hj := List.mem_range.mp hj
  obtain ⟨x, y⟩ := Prod.mk.inj h
  rw [← lineIndex_lineAt (g := g) (i := i) (by omega), x, y, lineIndex_lineAt (by omega)]

/-- One step of the walk, by the place of its pixel. -/
def linePixelAt (g : LineGeom) (semi : Bool) (x y : Int) (s : State) : State :=
  linePixel g semi (lineIndex g x y) ⟨x, y, 0⟩ s

theorem lineWalk_eq_foldl (g : LineGeom) (semi : Bool) (s : State) :
    lineWalk g semi (lineL g + 1) 0 (lineStart g) s =
      (linePixels g).foldl (fun t p => if live t then linePixelAt g semi p.1 p.2 t else t) s := by
  rw [← lineAt_zero, lineWalk_eq_forCount, linePixels, List.foldl_map]
  refine forCount_congr (fun i hi => funext fun t => ?_) s
  rw [Nat.zero_add, linePixelAt, lineIndex_lineAt (by omega)]
  rfl

/-! ### What the walk draws (R300, R301) -/

/-- What one step of the walk makes of its pixel. -/
def linePaint (s : State) (g : LineGeom) (semi : Bool) (x y : Int) (old : Pixel) : Pixel :=
  if InArea s.env x y then plain s.st semi (lineColour g (lineIndex g x y)) old else old

theorem linePixelAt_repainted (g : LineGeom) (semi : Bool) (x y : Int) (s : State) :
    Repainted x y (linePaint s g semi x y) s (linePixelAt g semi x y s) := by
  unfold linePixelAt linePixel
  by_cases area : inArea s.env x y = true
  · rw [if_pos area]
    have paint : linePaint s g semi x y = plain s.st semi (lineColour g (lineIndex g x y)) :=
      funext fun _ => if_pos ((area_iff_inArea ..).mp area)
    rw [paint]
    exact drawPixel_untextured (pixelNo_of_inArea area) ..
  · rw [if_neg area]
    exact .same fun _ _ => if_neg (mt (area_iff_inArea ..).mpr area)

theorem lineWalk_pixels {s : State} (hs : s.halted = none) (g : LineGeom) (semi : Bool) :
    let t := lineWalk g semi (lineL g + 1) 0 (lineStart g) s
    t = { s with vram := t.vram } ∧ ∀ x y : Nat, x < 1024 → y < 512 →
      px t x y = if ((x : Int), (y : Int)) ∈ linePixels g then linePaint s g semi x y (px s x y) else px s x y := by
  rw [lineWalk_eq_foldl]
  obtain ⟨only, pixels⟩ := foldl_repainted (g := linePaint s g semi) (linePixels_nodup g) hs fun x y _ v =>
    linePixelAt_repainted g semi x y { s with vram := v }
  exact ⟨only, fun x y hx hy => pixels x y _ (pixelNo_of_lt hx hy)⟩

/-! ### The line of two vertices, in the words of the statement -/

section Geometry

variable (s : State) (a b : Vertex) (c0 c1 : Rgb)

theorem lineGeom_dx : (lineGeom s a b c0 c1).x1 - (lineGeom s a b c0 c1).x0 = lineDx a b :=
  add_sub_add_right_eq_sub ..

theorem lineGeom_dy : (lineGeom s a b c0 c1).y1 - (lineGeom s a b c0 c1).y0 = lineDy a b :=
  add_sub_add_right_eq_sub ..

theorem lineL_lineGeom : lineL (lineGeom s a b c0 c1) = lineLen a b := by
  rw [lineL_eq_max, lineGeom_dx, lineGeom_dy, lineLen]

theorem lineMinorSteps_lineGeom (i : Nat) :
    lineMinorSteps (lineGeom s a b c0 c1) i = (lineLen a b / 2 + i * lineMinor a b) / lineLen a b := by
  rw [lineMinorSteps, lineL_lineGeom, lineS_eq_min, lineGeom_dx, lineGeom_dy, lineMinor]

theorem lineAt_lineGeom (i : Nat) :
    ((lineAt (lineGeom s a b c0 c1) i).x, (lineAt (lineGeom s a b c0 c1) i).y) = linePoint s a b i := by
  have major : lineMajorX (lineGeom s a b c0 c1) = true ↔ xMajor a b := by
    rw [lineMajorX_iff, lineGeom_dx, lineGeom_dy]
  simp only [lineAt, linePoint, major, lineGeom_dx, lineGeom_dy, lineMinorSteps_lineGeom]
  split <;> rfl

theorem lineColour_lineGeom (i : Nat) : lineColour (lineGeom s a b c0 c1) i = lineShade a b c0 c1 i := by
  rw [lineColour, lineL_lineGeom]
  rfl

theorem mem_linePixels_lineGeom {p : Int × Int} :
    p ∈ linePixels (lineGeom s a b c0 c1) ↔ ∃ i, i ≤ lineLen a b ∧ linePoint s a b i = p := by
  simp only [linePixels, List.mem_map, List.mem_range, Nat.lt_succ_iff, lineL_lineGeom, lineAt_lineGeom]

theorem lineIndex_linePoint {i : Nat} (hi : i ≤ lineLen a b) :
    lineIndex (lineGeom s a b c0 c1) (linePoint s a b i).1 (linePoint s a b i).2 = i := by
  rw [← lineAt_lineGeom s a b c0 c1]
  exact lineIndex_lineAt (by rwa [lineL_lineGeom])

end Geometry

theorem lineRejected_iff (a b : Vertex) :
    lineRejected a b = true ↔ (lineDx a b).natAbs > 0x3FF ∨ (lineDy a b).natAbs > 0x1FF := decide_eq_true_iff

/-- `Line(W)` (R303). -/
theorem line_drawn {s : State} (hs : s.halted = none) (a b : Vertex) (c0 c1 : Rgb) (semi : Bool) :
    LineDrawn s (line a b c0 c1 semi s) a b c0 c1 semi := by
  by_cases long : lineRejected a b = true
  · rw [line, if_pos long]
    have long := (lineRejected_iff a b).mp long
    exact ⟨rfl, fun _ => rfl, fun ⟨hx, hy⟩ => by omega⟩
  · rw [line, if_neg long]
    obtain ⟨only, pixels⟩ := lineWalk_pixels hs (lineGeom s a b c0 c1) semi
    refine ⟨only, fun h => absurd ((lineRejected_iff a b).mpr h) long, fun _ x y hx hy => ⟨?_, ?_⟩⟩
    · intro i hi point area
      have index := lineIndex_linePoint s a b c0 c1 hi
      rw [point] at index
      have drawn := (mem_linePixels_lineGeom s a b c0 c1).mpr ⟨i, hi, point⟩
      rw [pixels x y hx hy, if_pos drawn, linePaint, if_pos area, index, lineColour_lineGeom]
    · intro out
      rw [pixels x y hx hy, linePaint]
      rcases out with out | out
      · rw [if_neg out, ite_self]
      · refine if_neg fun walked => ?_
        obtain ⟨i, hi, point⟩ := (mem_linePixels_lineGeom ..).mp walked
        exact out i hi point

/-! ### The 16 single-line commands (R290, R291) -/

def lineFCommands : List ((LineF → Instr) × Bool) :=
  [(.lineF, false), (.lineFAt41, false), (.lineFS, true), (.lineFSAt43, true), (.lineFAt44, false),
    (.lineFAt45, false), (.lineFSAt46, true), (.lineFSAt47, true)]

def lineGCommands : List ((LineG → Instr) × Bool) :=
  [(.lineG, false), (.lineGAt51, false), (.lineGS, true), (.lineGSAt53, true), (.lineGAt54, false),
    (.lineGAt55, false), (.lineGSAt56, true), (.lineGSAt57, true)]

theorem exec_lineF (o : LineF) (s : State) : ∀ k ∈ lineFCommands, exec (k.1 o) s = .next (drawLineF o k.2 s) := by
  intro k hk
  fin_cases hk <;> rfl

theorem exec_lineG (o : LineG) (s : State) : ∀ k ∈ lineGCommands, exec (k.1 o) s = .next (drawLineG o k.2 s) := by
  intro k hk
  fin_cases hk <;> rfl

end Sys2Proof.Machine

/-- Settles O46: the walk is a list of distinct pixels, and every step repaints its own. -/
theorem singleLines : Obligations.SingleLines := fun s hs =>
  ⟨fun k hk o => ⟨_, exec_lineF o s k hk, line_drawn hs ..⟩, fun k hk o => ⟨_, exec_lineG o s k hk, line_drawn hs ..⟩⟩

end

section

open Sys2Proof Sys2Proof.Machine Sys2Proof.Claims

/-! ## Polylines (O7) -/

namespace Sys2Proof.Machine

/-- Of a word that is not the first of its command, the decoder makes at most the fault of a zero-size copy (R192,
R195). -/
theorem accept_halted (op : BitVec 8) (need : Nat) (ws : List Word) (s : State) :
    (accept op need ws s).halted = s.halted ∨
      (accept op need ws s).halted = some (.unsupportedFeature .zeroSizeTransfer op) := by
  by_cases hl : ws.length < need
  · rw [accept, if_pos hl]
    exact .inl rfl
  · rw [accept, if_neg hl]
    cases hz : copySize op ws with
    | none => exact .inl (by simp [complete, hz])
    | some z =>
      cases hnz : z.nonzero with
      | false => exact .inr (by rw [complete_zeroSize hz hnz, raise_halted])
      | true => exact .inl (by rw [complete_copy hz hnz, enqueue_halted])

theorem feed_busy_noPolyline {s : State} (hs : s.halted = none) (hd : s.dec ≠ .idle) (w : Word) :
    ∃ t, feed w s = .next t ∧ ∀ op, t.halted ≠ some (.unsupportedFeature .polyline op) := by
  cases hdec : s.dec with
  | idle => exact absurd hdec hd
  | dataIn rem => exact ⟨_, by rw [feed, hdec], fun op => by simp [hs]⟩
  | collect code need ws =>
    refine ⟨_, by rw [feed, hdec], fun op => ?_⟩
    rcases accept_halted code need (ws ++ [w]) s with h | h <;> simp [h, hs]

end Sys2Proof.Machine

/-- Settles O7: only a first word is looked up among the polylines, and their 16 commands are the ones found there. -/
theorem polylinesRaise : Obligations.PolylinesRaise := by
  refine ⟨firstWordRaises_of_feedIdle feedIdle_polyline, fun s w hs hd _ => feed_busy_noPolyline hs hd w,
    fun s k hk => exec_polyline (show polylineOf k.2 = some k.1 from ?_) s⟩
  revert k
  decide

end

section

open Sys2Proof Sys2Proof.Machine Sys2Proof.Claims

/-! ## The rectangle commands (O35, O36) -/

namespace Sys2Proof.Machine

/-! ### A rectangle is one span (R339, R340) -/

/-- An untextured rectangle repaints each pixel of its clipped span (R340, R400). -/
theorem rect_untextured {s : State} (hs : s.halted = none) (pos : Vertex) (w h : Nat) (c : Rgb) (semi : Bool) :
    RectDrawn s (rect (vertexX s pos) (vertexY s pos) w h c none semi s) pos w h c semi := by
  obtain ⟨only, pixels⟩ := forSpan_repainted
    (b := clipSpan s.env ⟨vertexX s pos, vertexX s pos + w, vertexY s pos, vertexY s pos + h⟩)
    (f := fun x y => drawPixel x y c none semi) (g := fun _ _ => plain s.st semi c) hs
    fun x y ⟨left, right, top, bottom⟩ v => by
      have area := clipSpan_inArea left right top bottom
      exact drawPixel_untextured (pixelNo_of_inArea area) c semi { s with vram := v }
  refine ⟨only, fun x y hx hy => (pixels x y hx hy).trans ?_⟩
  simp only [mem_clipSpan]
  rfl

/-- A textured rectangle is one scan of its clipped span, with the coordinates of its unclipped corner (R334, R337,
R342). -/
theorem rect_textured (s : State) (pos : Vertex) (t : TexCoord) (a : TexAttr) (w h : Nat) (c : Rgb) (semi : Bool) :
    rect (vertexX s pos) (vertexY s pos) w h c (some ⟨t, a⟩) semi s = rectScan s pos t a w h c semi :=
  forSpan_eq_scan ..

theorem rectScan_noFault {a : TexAttr} (ha : a.fits) {s : State} (hs : s.halted = none) (pos : Vertex) (t : TexCoord)
    (w h : Nat) (c : Rgb) (semi : Bool) : (rectScan s pos t a w h c semi).halted = none := by
  rw [← rect_textured]
  refine forSpan_inv (P := fun u => u.halted = none) (fun x y left right top bottom u _ hu => ?_) hs
  have area := clipSpan_inArea left right top bottom
  exact drawPixel_noFault (pixelNo_of_inArea area) c ha semi hu

/-! ### The 32 rectangle commands by operand shape (R330 to R332)

A command of fixed size comes with its side, an untextured one with `semi`, a textured one with `semi` and `raw`. -/

def rectVCommands : List ((RectV → Instr) × Bool) :=
  [(.rectV, false), (.rectVAt61, false), (.rectVS, true), (.rectVSAt63, true)]

def rectSCommands : List ((RectS → Instr) × Nat × Bool) :=
  [(.rect1, 1, false), (.rect1At69, 1, false), (.rect1S, 1, true), (.rect1SAt6b, 1, true),
    (.rect8, 8, false), (.rect8At71, 8, false), (.rect8S, 8, true), (.rect8SAt73, 8, true),
    (.rect16, 16, false), (.rect16At79, 16, false), (.rect16S, 16, true), (.rect16SAt7b, 16, true)]

def rectTVCommands : List ((RectTV → Instr) × Bool × Bool) :=
  [(.rectTV, false, false), (.rectTVR, false, true), (.rectTVS, true, false), (.rectTVSR, true, true)]

def rectTSCommands : List ((RectTS → Instr) × Nat × Bool × Bool) :=
  [(.rectT1, 1, false, false), (.rectT1R, 1, false, true), (.rectT1S, 1, true, false), (.rectT1SR, 1, true, true),
    (.rectT8, 8, false, false), (.rectT8R, 8, false, true), (.rectT8S, 8, true, false), (.rectT8SR, 8, true, true),
    (.rectT16, 16, false, false), (.rectT16R, 16, false, true), (.rectT16S, 16, true, false),
    (.rectT16SR, 16, true, true)]

theorem exec_rectV (o : RectV) (s : State) : ∀ k ∈ rectVCommands, exec (k.1 o) s = .next (drawRectV o k.2 s) :=
  forall_mem_four rfl rfl rfl rfl

theorem exec_rectTV (o : RectTV) (s : State) :
    ∀ k ∈ rectTVCommands, exec (k.1 o) s = .next (drawRectTV o k.2.1 k.2.2 s) :=
  forall_mem_four rfl rfl rfl rfl

/-- The size field of the opcode stands for the side in pixels (R332). -/
theorem exec_rectS (o : RectS) (s : State) :
    ∀ k ∈ rectSCommands, exec (k.1 o) s =
      .next (rect (vertexX s o.pos) (vertexY s o.pos) k.2.1 k.2.1 o.c none k.2.2 s) := by
  intro k hk
  fin_cases hk <;> rfl

theorem exec_rectTS (o : RectTS) (s : State) :
    ∀ k ∈ rectTSCommands, exec (k.1 o) s =
      .next (rect (vertexX s o.pos) (vertexY s o.pos) k.2.1 k.2.1 o.c
        (some ⟨o.t, rectTex s o.clut k.2.2.2⟩) k.2.2.1 s) := by
  intro k hk
  fin_cases hk <;> rfl

end Sys2Proof.Machine

/-- Settles O35: a rectangle is one span, whose steps each repaint their own pixel. -/
theorem untexturedRectangles : Obligations.UntexturedRectangles := fun s hs =>
  ⟨fun k hk o => ⟨_, exec_rectV o s k hk, rect_untextured hs ..⟩,
    fun k hk o => ⟨_, exec_rectS o s k hk, rect_untextured hs ..⟩⟩

/-- Settles O36: the rows of the span make one scan, and a texture inside the grid is always found. -/
theorem texturedRectangles : Obligations.TexturedRectangles := fun s hs =>
  ⟨fun k hk o => ⟨(exec_rectTV o s k hk).trans (congrArg _ (rect_textured ..)),
      fun ha => rectScan_noFault ha hs ..⟩,
    fun k hk o => ⟨(exec_rectTS o s k hk).trans (congrArg _ (rect_textured ..)),
      fun ha => rectScan_noFault ha hs ..⟩⟩

end

section

open Sys2Proof Sys2Proof.Machine Sys2Proof.Claims

/-! ## The texture sampler and one textured pixel (O37, O53) -/

namespace Sys2Proof.Machine

/-! ### The sampler in the numbers of the statements (R381 to R390) -/

/-- The texture window on a coordinate of any size (R382, R383). -/
theorem texelCoord_toNat (pre post : BitVec 8) (u : Int) :
    (texelCoord pre post u).toNat = windowed pre post u := by
  rw [texelCoord, BitVec.toNat_or, BitVec.toNat_and, BitVec.toNat_ofInt]
  rfl

theorem nibbleIndex_eq (word : P15) (u : BitVec 8) :
    nibbleIndex word u = word.toNat / 16 ^ (u.toNat % 4) % 16 := by
  rw [nibbleIndex, Nat.shiftRight_eq_div_pow, pow_mul', show 2 ^ 4 = 16 from rfl]

theorem byteIndex_eq (word : P15) (u : BitVec 8) :
    byteIndex word u = word.toNat / 256 ^ (u.toNat % 2) % 256 := by
  rw [byteIndex, Nat.shiftRight_eq_div_pow, pow_mul', show 2 ^ 8 = 256 from rfl]

/-- The fault of a read at a location outside the grid (R98). -/
def locationFault (e : Nat × Nat) : Fault := .vramAddressOutOfRange e.1 e.2

theorem pixelAt_eq_look (s : State) (x y : Nat) : pixelAt s x y = (look s x y).mapError locationFault := by
  by_cases grid : OnGrid (x, y)
  · rw [pixelAt_onGrid s grid, look, if_pos grid]
    rfl
  · rw [pixelAt_offGrid s grid, look, if_neg grid]
    rfl

/-- The sampler finds the texel of the statements, or faults at its location. -/
theorem sample_eq_texel (s : State) (u v : BitVec 8) (a : TexAttr) :
    sample s u v a = (texel s a u.toNat v.toNat).mapError locationFault := by
  have depths : ∀ d : BitVec 2, d = 0#2 ∨ d = 1#2 ∨ d = 2#2 ∨ d = 3#2 := by decide
  obtain ⟨clutX, clutY, pageX, pageY, depth, raw⟩ := a
  rcases depths depth with rfl | rfl | rfl | rfl
  · simp only [sample, texel, pixelAt_eq_look, nibbleIndex_eq]
    cases look s (pageX + u.toNat / 4) (pageY + v.toNat) <;> rfl
  · simp only [sample, texel, pixelAt_eq_look, byteIndex_eq]
    cases look s (pageX + u.toNat / 2) (pageY + v.toNat) <;> rfl
  · simp only [sample, texel, pixelAt_eq_look]
    rfl
  · simp only [sample, texel, pixelAt_eq_look]
    rfl

/-- A 4-bit texture of any page and CLUT lies inside the grid (R385, R390). -/
theorem fits_fourBit (c : Clut) (x : BitVec 4) (y : BitVec 1) {depth : BitVec 2} (h : depth = 0#2) (raw : Bool) :
    TexAttr.fits ⟨clutColumn c, clutRow c, pageColumn x, pageRow y, depth, raw⟩ := by
  subst h
  have clutX := c.x.isLt
  have clutY := c.y.isLt
  have pageX := x.isLt
  have pageY := y.isLt
  simp only [TexAttr.fits, clutColumn, clutRow, pageColumn, pageRow]
  exact ⟨by omega, by omega, by omega, by omega⟩

/-! ### The pipeline on a textured pixel (R400 to R408) -/

theorem modulateChannel_eq_scaled (base t : BitVec 8) :
    modulateChannel base t = BitVec.ofNat 8 (scaled base.toNat t.toNat) :=
  congrArg (fun n => BitVec.ofNat 8 (min n 255)) (Nat.shiftRight_eq_div_pow _ 7)

/-- The texel that a texture reference names, by the numbers of the statements. -/
def texelAt (s : State) (r : TexRef) : Except (Nat × Nat) Pixel :=
  texel s r.attr (windowed s.env.preMaskX s.env.postMaskX r.u) (windowed s.env.preMaskY s.env.postMaskY r.v)

theorem sample_eq_texelAt (s : State) (r : TexRef) :
    sample s (texelCoord s.env.preMaskX s.env.postMaskX r.u) (texelCoord s.env.preMaskY s.env.postMaskY r.v) r.attr =
      (texelAt s r).mapError locationFault := by
  rw [sample_eq_texel, texelCoord_toNat, texelCoord_toNat]
  rfl

/-- The colour of a texel before semi-transparency, by the numbers of the statements (R405, R406). -/
def texelColour (raw : Bool) (base : Rgb) (t : C24) : C24 :=
  if raw then t
  else ⟨t.m, BitVec.ofNat 8 (scaled base.r.toNat t.r.toNat), BitVec.ofNat 8 (scaled base.g.toNat t.g.toNat),
    BitVec.ofNat 8 (scaled base.b.toNat t.b.toNat)⟩

theorem texelColour_eq_modulate (raw : Bool) (base : Rgb) (t : C24) :
    texelColour raw base t = if raw then t else modulate base t := by
  simp only [texelColour, modulate, modulateChannel_eq_scaled]

theorem foreground_of_texel_error {s : State} {r : TexRef} {e : Nat × Nat} (he : texelAt s r = .error e) (base : Rgb) :
    foreground s base (some r) = .error (locationFault e) := by
  simp only [foreground, sample_eq_texelAt, he, Except.mapError]

theorem foreground_of_texel_ok {s : State} {r : TexRef} {p : Pixel} (hp : texelAt s r = .ok p) (base : Rgb) :
    foreground s base (some r) =
      .ok (if p.p15 = 0#16 then none else some (texelColour r.attr.raw base p.c24, p.c24.m)) := by
  simp only [foreground, sample_eq_texelAt, hp, Except.mapError, texelColour_eq_modulate]
  split <;> rfl

/-- A protected pixel stays, textured or not (R402). -/
theorem drawPixel_protected {x y : Int} {k : Nat} (hk : pixelNo x y = some k) {s : State}
    (hc : s.st.checkMask = true) (hm : (pixelOf s k).c24.m = true) (base : Rgb) (tex : Option TexRef) (semi : Bool) :
    drawPixel x y base tex semi s = s := by
  simp [drawPixel, pixelAt_of_pixelNo hk, hc, hm]

section Unprotected

variable {x y : Int} {k : Nat} (hk : pixelNo x y = some k) {s : State}
  (free : ¬ (s.st.checkMask = true ∧ (pixelOf s k).c24.m = true)) {r : TexRef} (base : Rgb) (semi : Bool)

include hk free

/-- A texel outside the grid raises its fault, and nothing else happens (R390). -/
theorem drawPixel_texel_error {e : Nat × Nat} (he : texelAt s r = .error e) :
    drawPixel x y base (some r) semi s = raise (locationFault e) s := by
  simp only [drawPixel, pixelAt_of_pixelNo hk, foreground_of_texel_error he]
  exact if_neg (by simpa using free)

/-- A texel that is found repaints the pixel; a transparent one leaves it (R401, R403 to R408). -/
theorem drawPixel_texel_ok {p : Pixel} (hp : texelAt s r = .ok p) :
    Repainted x y (textured s.st semi r.attr.raw base p) s (drawPixel x y base (some r) semi s) := by
  simp only [drawPixel, pixelAt_of_pixelNo hk, foreground_of_texel_ok hp]
  rw [if_neg (by simpa using free)]
  by_cases transparent : p.p15 = 0#16
  · simp only [if_pos transparent]
    refine .same fun j hj => ?_
    obtain rfl : k = j := Option.some.inj (hk.symm.trans hj)
    exact (if_neg free).trans (if_pos transparent)
  · have value : textured s.st semi r.attr.raw base p (pixelOf s k) =
        written s.st (semi && p.c24.m) (texelColour r.attr.raw base p.c24) (pixelOf s k) :=
      (if_neg free).trans (if_neg transparent)
    simp only [if_neg transparent, setPix24_of_pixelNo hk]
    rw [← written_eq_blended, ← value]
    exact .put hk

end Unprotected

/-! ### A rectangle of one pixel (R339) -/

theorem spanPixels_single (e : DrawEnv) (x y : Int) :
    spanPixels (clipSpan e ⟨x, x + 1, y, y + 1⟩) = if InArea e x y then [(x, y)] else [] := by
  split
  · rename_i area
    have whole : clipSpan e ⟨x, x + 1, y, y + 1⟩ = ⟨x, x + 1, y, y + 1⟩ := by
      simp only [clipSpan, Span.mk.injEq]
      omega
    simp [whole, spanPixels]
  · rename_i outside
    refine List.eq_nil_iff_forall_not_mem.mpr fun ⟨x', y'⟩ hp => outside ?_
    obtain ⟨area, left, right, top, bottom⟩ := mem_clipSpan.mp (mem_spanPixels.mp hp)
    obtain ⟨rfl, rfl⟩ : x' = x ∧ y' = y := by simp only at left right top bottom; omega
    exact area

theorem rectTexRef_corner (e : DrawEnv) (x y : Int) (t : TexCoord) (a : TexAttr) :
    rectTexRef e x y (some ⟨t, a⟩) x y = some ⟨t.u.toNat, t.v.toNat, a⟩ := by
  simp [rectTexRef, rectCoord]

/-- A 1×1 textured rectangle is one pixel, drawn with its own coordinate whatever the flips, or none. -/
theorem rect_single {s : State} (hs : s.halted = none) (x y : Int) (c : Rgb) (t : TexCoord) (a : TexAttr)
    (semi : Bool) :
    rect x y 1 1 c (some ⟨t, a⟩) semi s =
      if InArea s.env x y then drawPixel x y c (some ⟨t.u.toNat, t.v.toNat, a⟩) semi s else s := by
  rw [rect, forSpan_eq_foldl, Nat.cast_one, spanPixels_single]
  split
  · simp [live_iff, hs, rectTexRef_corner]
  · rfl

/-- The four 1×1 textured commands, each with `semi` and `raw` (R331, R332). -/
def rectT1Commands : List ((RectTS → Instr) × Bool × Bool) :=
  [(.rectT1, false, false), (.rectT1R, false, true), (.rectT1S, true, false), (.rectT1SR, true, true)]

theorem exec_rectT1 (o : RectTS) (s : State) :
    ∀ k ∈ rectT1Commands, exec (k.1 o) s =
      .next (rect (screenX s o.pos) (screenY s o.pos) 1 1 o.c (some ⟨o.t, rectAttr s o.clut k.2.2⟩) k.2.1 s) :=
  forall_mem_four rfl rfl rfl rfl

end Sys2Proof.Machine

/-- Settles O37: a 1×1 rectangle is one step of the pipeline, and the sampler finds the texel or faults. -/
theorem texturedPixel : Obligations.TexturedPixel := by
  intro s hs k hk o x y u v old
  rw [exec_rectT1 o s k hk, rect_single hs]
  have number (area : InArea s.env x y) : pixelNo x y = some (y.toNat * 1024 + x.toNat) :=
    pixelNo_of_inArea ((area_iff_inArea ..).mpr area)
  refine ⟨fun outside => by rw [if_neg outside], fun area hc hm => ?_, fun area free => ?_⟩ <;> rw [if_pos area]
  · rw [drawPixel_protected (number area) hc hm]
  refine ⟨fun e he => ?_, fun p hp => ?_⟩
  · exact congrArg Host.Outcome.next (drawPixel_texel_error (number area) free (r := ⟨_, _, _⟩) o.c k.2.1 he)
  · obtain ⟨onlyVram, pixel, others⟩ := drawPixel_texel_ok (number area) free (r := ⟨_, _, _⟩) o.c k.2.1 hp
    refine ⟨_, rfl, onlyVram, pixel _ (number area), fun x' y' hx hy other => others _ fun same => other ?_⟩
    exact Prod.ext_iff.mpr (pixelNo_inj (pixelNo_of_lt hx hy) same)

/-- Settles O53: a 4-bit page and its CLUT fit the grid wherever they are placed. -/
theorem fourBitNeverFaults : Obligations.FourBitNeverFaults := fun s u v c p raw =>
  ⟨fun depth => sample_of_fits (fits_fourBit c p.x p.y depth raw) s u v,
    fun depth => sample_of_fits (fits_fourBit c s.st.texPageX s.st.texPageY depth raw) s u v⟩

end

section

open Sys2Proof Sys2Proof.Machine Sys2Proof.Claims

/-! ## The transparent texel and the neutral base colour (O50, O51) -/

namespace Sys2Proof.Machine

/-- A texel of value 0 has no foreground, whatever its colour in the 24-bit store (R403). -/
theorem foreground_of_transparent {s : State} {r : TexRef} {p : Pixel}
    (hp : sample s (texelCoord s.env.preMaskX s.env.postMaskX r.u) (texelCoord s.env.preMaskY s.env.postMaskY r.v)
      r.attr = .ok p) (transparent : p.p15 = 0#16) (base : Rgb) : foreground s base (some r) = .ok none := by
  simp only [foreground, hp, if_pos transparent]

/-- Without a foreground the mask test makes no difference: both of its branches leave the state (R402, R403). -/
theorem drawPixel_of_no_foreground {x y : Int} {k : Nat} (hk : pixelNo x y = some k) {s : State} {base : Rgb}
    {tex : Option TexRef} (skipped : foreground s base tex = .ok none) (semi : Bool) :
    drawPixel x y base tex semi s = s := by
  simp only [drawPixel, pixelAt_of_pixelNo hk, skipped, ite_self]

/-- `0x80` is one in the fixed point of the modulation: the shift by 7 undoes the product, and 8 bits never reach
the clamp (R406). -/
theorem modulateChannel_neutral (t : BitVec 8) : modulateChannel 0x80 t = t := by
  have unscaled : scaled 128 t.toNat = t.toNat := by
    have ht := t.isLt
    simp only [scaled]
    omega
  calc modulateChannel 0x80 t
    _ = BitVec.ofNat 8 (scaled 128 t.toNat) := modulateChannel_eq_scaled 0x80 t
    _ = t := by rw [unscaled, BitVec.ofNat_toNat, BitVec.setWidth_eq]

end Sys2Proof.Machine

/-- Settles O50: the transparent texel gives no foreground, so nothing is written. -/
theorem transparentTexelSkipped : Obligations.TransparentTexelSkipped :=
  fun _ _ _ base _ semi _ hx hy hp transparent =>
    drawPixel_of_no_foreground (pixelNo_of_lt hx hy) (foreground_of_transparent hp transparent base) semi

/-- Settles O51: each channel is modulated by one, and the mask bit passes through. -/
theorem neutralModulation : Obligations.NeutralModulation := by
  intro t
  simp only [modulate, modulateChannel_neutral]

end

section

open Sys2Proof Sys2Proof.Machine Sys2Proof.Claims

/-! ## The fill (O8, O28, O29)

The fill is one loop over the places of its block in row order; when it stops, it has painted the places before that
one. -/

namespace Sys2Proof.Machine

/-! ### The places of a rectangle in row order (R454) -/

/-- Place `n` of a rectangle, rows top to bottom, each row left to right. -/
def rectPlace (p : PosXY) (z : SizeWH) (n : Nat) : Nat × Nat :=
  (p.x.toNat + n % z.w.toNat, p.y.toNat + n / z.w.toNat)

theorem rectPlace_inj {p : PosXY} {z : SizeWH} {m n : Nat} (h : rectPlace p z m = rectPlace p z n) : m = n := by
  simp only [rectPlace, Prod.mk.injEq, Nat.add_left_cancel_iff] at h
  rw [← Nat.div_add_mod m z.w.toNat, h.1, h.2, Nat.div_add_mod]

theorem rectPlace_row (p : PosXY) {z : SizeWH} {i : Nat} (hi : i < z.w.toNat) (j : Nat) :
    rectPlace p z (z.w.toNat * j + i) = (p.x.toNat + i, p.y.toNat + j) := by
  rw [rectPlace, Nat.mul_add_mod, Nat.mod_eq_of_lt hi, Nat.mul_add_div (by omega), Nat.div_eq_of_lt hi, Nat.add_zero]

/-- The order of the places is by row, then by column. -/
theorem row_order_lt_iff {w i j i' j' : Nat} (hi : i < w) (hi' : i' < w) :
    w * j' + i' < w * j + i ↔ j' < j ∨ j' = j ∧ i' < i := by
  rcases lt_trichotomy j' j with h | rfl | h
  · have rows := Nat.mul_le_mul_left w (Nat.succ_le_of_lt h)
    rw [Nat.mul_succ] at rows
    omega
  · omega
  · have rows := Nat.mul_le_mul_left w (Nat.succ_le_of_lt h)
    rw [Nat.mul_succ] at rows
    omega

/-- The places before column `i` of row `j` are those of the rows above it and those left of it in its own row. -/
theorem exists_rectPlace_lt_iff {p : PosXY} {z : SizeWH} {i j : Nat} (hi : i < z.w.toNat) (x y : Nat) :
    (∃ m < z.w.toNat * j + i, rectPlace p z m = (x, y)) ↔
      (p.x.toNat ≤ x ∧ x < p.x.toNat + z.w.toNat) ∧ p.y.toNat ≤ y ∧
        (y < p.y.toNat + j ∨ y = p.y.toNat + j ∧ x < p.x.toNat + i) := by
  constructor
  · rintro ⟨m, hm, hp⟩
    have column := Nat.mod_lt m (Nat.zero_lt_of_lt hi)
    rw [← Nat.div_add_mod m z.w.toNat] at hm hp
    rw [row_order_lt_iff hi column] at hm
    rw [rectPlace_row p column, Prod.mk.injEq] at hp
    generalize m / z.w.toNat = row at hm hp
    omega
  · rintro ⟨⟨hx, hx'⟩, hy, before⟩
    have column : x - p.x.toNat < z.w.toNat := by omega
    refine ⟨z.w.toNat * (y - p.y.toNat) + (x - p.x.toNat), (row_order_lt_iff hi column).mpr (by omega), ?_⟩
    rw [rectPlace_row p column, Prod.mk.injEq]
    omega

theorem exists_rectPlace_iff (p : PosXY) (z : SizeWH) (x y : Nat) :
    (∃ m < z.w.toNat * z.h.toNat, rectPlace p z m = (x, y)) ↔
      InBlock p.x.toNat p.y.toNat z.w.toNat z.h.toNat x y := by
  rcases Nat.eq_zero_or_pos z.w.toNat with hw | hw
  · simp only [hw, Nat.zero_mul, InBlock]
    constructor
    · rintro ⟨m, hm, -⟩
      omega
    · omega
  · rw [← Nat.add_zero (_ * _), exists_rectPlace_lt_iff hw, InBlock]
    omega

theorem rectPlace_inBlock (p : PosXY) {z : SizeWH} {n : Nat} (hn : n < z.w.toNat * z.h.toNat) :
    InBlock p.x.toNat p.y.toNat z.w.toNat z.h.toNat (rectPlace p z n).1 (rectPlace p z n).2 :=
  (exists_rectPlace_iff p z _ _).mp ⟨n, hn, rfl⟩

theorem rectPlace_onGrid {p : PosXY} {z : SizeWH} (hg : InGrid p z) {n : Nat} (hn : n < z.w.toNat * z.h.toNat) :
    OnGrid (rectPlace p z n) := by
  have block := rectPlace_inBlock p hn
  simp only [InBlock] at block
  simp only [InGrid] at hg
  simp only [OnGrid]
  omega

/-! ### Loops over places -/

/-- A loop ends with the iteration that raises a fault (R543). -/
theorem forCount_stop {n total : Nat} {f : Nat → State → State} {s : State} (hn : n < total)
    (hl : (forCount n f s).halted = none) (hf : (f n (forCount n f s)).halted ≠ none) :
    forCount total f s = f n (forCount n f s) := by
  have stopped : forCount (n + 1) f s = f n (forCount n f s) := by
    rw [forCount_succ, if_pos ((live_iff _).mpr hl)]
  obtain ⟨rest, rfl⟩ := Nat.exists_eq_add_of_le (Nat.succ_le_of_lt hn)
  rw [forCount_add, Nat.succ_eq_add_one, stopped]
  exact forCount_dead (Bool.eq_false_iff.mpr (mt (live_iff _).mp hf)) ..

/-- The first `n` places of a loop, in order. -/
def visited (place : Nat → Nat × Nat) (n : Nat) : List (Int × Int) :=
  (List.range n).map fun m => ((place m).1, (place m).2)

theorem mem_visited {place : Nat → Nat × Nat} {n x y : Nat} :
    ((x : Int), (y : Int)) ∈ visited place n ↔ ∃ m < n, place m = (x, y) := by
  simp [visited, Prod.ext_iff]

theorem visited_nodup {place : Nat → Nat × Nat} (inj : ∀ m n, place m = place n → m = n) (n : Nat) :
    (visited place n).Nodup := by
  refine List.nodup_range.map fun a b hab => inj a b ?_
  simpa [Prod.ext_iff] using hab

/-- Steps that each repaint their own place repaint every place they visit once, and no other. -/
theorem forCount_repainted {g : Int → Int → Pixel → Pixel} {f : Int → Int → State → State}
    {place : Nat → Nat × Nat} (inj : ∀ m n, place m = place n → m = n) {n : Nat} {s : State} (hs : s.halted = none)
    (hf : ∀ m < n, ∀ v, Repainted (place m).1 (place m).2 (g (place m).1 (place m).2) { s with vram := v }
      (f (place m).1 (place m).2 { s with vram := v })) :
    let t := forCount n (fun m => f (place m).1 (place m).2) s
    t = { s with vram := t.vram } ∧
      ∀ x y : Nat, x < 1024 → y < 512 →
        px t x y = if ∃ m < n, place m = (x, y) then g x y (px s x y) else px s x y := by
  obtain ⟨only, pixels⟩ := foldl_repainted (g := g) (f := f) (visited_nodup inj n) hs fun x y hxy => by
    obtain ⟨m, hm, h⟩ := List.mem_map.mp hxy
    cases h
    exact hf m (List.mem_range.mp hm)
  have loop : forCount n (fun m => f (place m).1 (place m).2) s =
      (visited place n).foldl (fun t p => if live t then f p.1 p.2 t else t) s := by
    rw [visited, List.foldl_map]
    rfl
  simp only [loop]
  refine ⟨only, fun x y hx hy => ?_⟩
  have pixel := pixels x y _ (pixelNo_of_lt hx hy)
  simp only [mem_visited] at pixel
  exact pixel

/-! ### The steps of the fill (R432, R433) -/

/-- What the fill does at a place. -/
def fillAt (o : Fill) (x y : Int) : State → State := setPix24 x y ⟨false, o.c.r, o.c.g, o.c.b⟩

/-- Step `n` of the fill. -/
def fillStep (o : Fill) (n : Nat) : State → State :=
  fillAt o (rectPlace o.pos o.size n).1 (rectPlace o.pos o.size n).2

/-- The pixel that the fill writes. -/
def fillPixel (o : Fill) : Pixel := ⟨⟨false, o.c.r, o.c.g, o.c.b⟩, narrow ⟨false, o.c.r, o.c.g, o.c.b⟩⟩

theorem fillRect_eq_forCount (o : Fill) (s : State) :
    fillRect o s = forCount (o.size.w.toNat * o.size.h.toNat) (fillStep o) s := forGrid_eq_forCount ..

theorem fillAt_repainted (o : Fill) {x y : Nat} (h : OnGrid (x, y)) (s : State) :
    Repainted x y (fun _ => fillPixel o) s (fillAt o x y s) := by
  have number := pixelNo_of_lt h.1 h.2
  rw [fillAt, setPix24_of_pixelNo number]
  exact .put number

/-- The fill's first steps, as long as they stay in the grid, paint their places and nothing else. -/
theorem fillStep_painted (o : Fill) {n : Nat} {s : State} (hs : s.halted = none)
    (hg : ∀ m < n, OnGrid (rectPlace o.pos o.size m)) :
    let t := forCount n (fillStep o) s
    t = { s with vram := t.vram } ∧
      ∀ x y : Nat, x < 1024 → y < 512 →
        px t x y = if ∃ m < n, rectPlace o.pos o.size m = (x, y) then fillPixel o else px s x y :=
  forCount_repainted (g := fun _ _ _ => fillPixel o) (fun _ _ => rectPlace_inj) hs
    fun m hm _ => fillAt_repainted o (hg m hm) _

theorem pixelNo_offGrid {p : Nat × Nat} (h : ¬ OnGrid p) : pixelNo p.1 p.2 = none := by
  unfold pixelNo
  rw [if_neg (by simp only [OnGrid] at h; omega)]

theorem setPix24_offGrid {p : Nat × Nat} (h : ¬ OnGrid p) (c : C24) (s : State) :
    setPix24 p.1 p.2 c s = { s with halted := offGrid p } := by
  simp [setPix24, setPixel, pixelNo_offGrid h, raise, offGrid]

theorem fillRect_zeroSize {o : Fill} (h : o.size.w = 0#16 ∨ o.size.h = 0#16) (s : State) : fillRect o s = s := by
  have empty : o.size.w.toNat * o.size.h.toNat = 0 := by
    rcases h with h | h
    · rw [h]; exact Nat.zero_mul _
    · rw [h]; exact Nat.mul_zero _
  rw [fillRect_eq_forCount, empty, forCount_zero]

/-- The first place of a block outside the grid, as a column and a row of the block (R430). -/
theorem exists_first_offGrid {p : PosXY} {z : SizeWH} (hw : 0 < z.w.toNat) (hh : 0 < z.h.toNat)
    (hg : ¬ InGrid p z) :
    ∃ i < z.w.toNat, ∃ j < z.h.toNat,
      (if 512 ≤ p.y.toNat then (p.x.toNat, p.y.toNat)
        else if 1024 < p.x.toNat + z.w.toNat then (max p.x.toNat 1024, p.y.toNat) else (p.x.toNat, 512)) =
          (p.x.toNat + i, p.y.toNat + j) ∧
      ¬ OnGrid (p.x.toNat + i, p.y.toNat + j) ∧ ∀ m < z.w.toNat * j + i, OnGrid (rectPlace p z m) := by
  have before {i j : Nat} (hi : i < z.w.toNat) {m : Nat} (hm : m < z.w.toNat * j + i) :=
    (exists_rectPlace_lt_iff hi (rectPlace p z m).1 (rectPlace p z m).2).mp ⟨m, hm, rfl⟩
  simp only [InGrid] at hg
  split
  · refine ⟨0, hw, 0, hh, rfl, ?_, fun m hm => by omega⟩
    simp only [OnGrid]
    omega
  split
  · refine ⟨1024 - p.x.toNat, by omega, 0, hh, ?_, ?_, fun m hm => ?_⟩
    · rw [Prod.mk.injEq]
      omega
    · simp only [OnGrid]
      omega
    · have := before (by omega) hm
      simp only [OnGrid]
      omega
  · refine ⟨0, hw, 512 - p.y.toNat, by omega, ?_, ?_, fun m hm => ?_⟩
    · rw [Prod.mk.injEq]
      omega
    · simp only [OnGrid]
      omega
    · have := before hw hm
      simp only [OnGrid]
      omega

end Sys2Proof.Machine

/-- Settles O8: the loop of an empty fill has no step. -/
theorem zeroSize : Obligations.ZeroSize :=
  ⟨zeroSizeRaises, fun s _ h => congrArg Host.Outcome.next (fillRect_zeroSize h s)⟩

/-- Settles O28: inside the grid the fill runs through every place of its block. -/
theorem fillPaints : Obligations.FillPaints := by
  intro s o hs hg
  obtain ⟨only, pixels⟩ := fillStep_painted o hs fun m hm => rectPlace_onGrid hg hm
  rw [← fillRect_eq_forCount] at only pixels
  simp only [exists_rectPlace_iff] at pixels
  exact ⟨_, rfl, only, pixels⟩

/-- Settles O29: the loop stops at the first place outside the grid, with the places before it painted. -/
theorem fillFaults : Obligations.FillFaults := by
  intro s o hs hw hh hg x0 y0 bad
  obtain ⟨i, hi, j, hj, hbad, off, before⟩ := exists_first_offGrid hw hh hg
  have first : bad = (x0 + i, y0 + j) := hbad
  rw [first]
  obtain ⟨only, pixels⟩ := fillStep_painted o hs before
  have place := rectPlace_row o.pos hi j
  have inside : o.size.w.toNat * j + i < o.size.w.toNat * o.size.h.toNat :=
    (row_order_lt_iff (j := o.size.h.toNat) hw hi).mpr (.inl hj)
  generalize hu : forCount (o.size.w.toNat * j + i) (fillStep o) s = u at only pixels
  have running : u.halted = none := by rw [only]; exact hs
  have faults : fillStep o (o.size.w.toNat * j + i) u = { u with halted := offGrid (x0 + i, y0 + j) } := by
    rw [fillStep, place]
    exact setPix24_offGrid off _ u
  have stop : fillRect o s = { u with halted := offGrid (x0 + i, y0 + j) } := by
    rw [← faults, fillRect_eq_forCount, ← hu]
    refine forCount_stop inside ?_ ?_
    · rw [hu]; exact running
    · rw [hu, faults]; nofun
  refine ⟨_, congrArg Host.Outcome.next stop, by rw [only]; rfl, fun x y hx hy => ?_⟩
  have pixel := pixels x y hx hy
  simp only [exists_rectPlace_lt_iff hi] at pixel
  refine Eq.trans pixel (if_congr ?_ rfl rfl)
  simp only [InBlock]
  omega

end

section

open Sys2Proof Sys2Proof.Machine Sys2Proof.Claims

/-! ## The copy inside VRAM (O30, O31) -/

namespace Sys2Proof.Machine

/-! ### Repainting a place of the grid -/

/-- A write that a condition may hold back repaints its place. -/
theorem Repainted.put_unless {p : Nat × Nat} (hp : OnGrid p) {g : Pixel → Pixel} {s : State} {c : Prop} [Decidable c]
    {new : Pixel} (value : g (px s p.1 p.2) = if c then px s p.1 p.2 else new) :
    Repainted p.1 p.2 g s (if c then s else { s with vram := putCell (p.2 * 1024 + p.1) new s.vram }) := by
  have number := pixelNo_of_lt hp.1 hp.2
  by_cases held : c
  · rw [if_pos held] at value ⊢
    refine .same fun k hk => ?_
    obtain rfl : p.2 * 1024 + p.1 = k := Option.some.inj (number.symm.trans hk)
    exact value
  · rw [if_neg held] at value ⊢
    rw [← value]
    exact .put number

section Repainted

variable {p : Nat × Nat} {g : Pixel → Pixel} {s t : State} (h : Repainted p.1 p.2 g s t)
include h

theorem Repainted.px_same (hg : OnGrid p) : px t p.1 p.2 = g (px s p.1 p.2) := h.pixel _ (pixelNo_of_lt hg.1 hg.2)

theorem Repainted.px_other {q : Nat × Nat} (hg : OnGrid q) (hne : p ≠ q) : px t q.1 q.2 = px s q.1 q.2 := by
  refine h.others _ fun hk => hne ?_
  obtain ⟨hx, hy⟩ := pixelNo_inj hk (pixelNo_of_lt hg.1 hg.2)
  exact Prod.ext (Int.ofNat_inj.mp hx) (Int.ofNat_inj.mp hy)

end Repainted

/-! ### One pixel of the copy (R435, R436) -/

/-- The source pixel `src` as the copy writes it. -/
def taken (st : Status) (src : Pixel) : Pixel :=
  ⟨{ src.c24 with m := src.c24.m || st.setMask }, narrow { src.c24 with m := src.c24.m || st.setMask }⟩

/-- What the source pixel `src` makes of the destination pixel `old`. -/
def moved (st : Status) (src old : Pixel) : Pixel := if st.checkMask ∧ old.c24.m then old else taken st src

section CopyPixel

variable {src dst : Nat × Nat} (u : State)

theorem copyPixel_src_offGrid (h : ¬ OnGrid src) :
    copyPixel src.1 src.2 dst.1 dst.2 u = { u with halted := offGrid src } := by
  simp [copyPixel, pixelAt_offGrid u h, raise, offGrid]

variable (hsrc : OnGrid src)
include hsrc

theorem copyPixel_dst_offGrid (h : ¬ OnGrid dst) :
    copyPixel src.1 src.2 dst.1 dst.2 u = { u with halted := offGrid dst } := by
  simp [copyPixel, pixelAt_onGrid u hsrc, pixelAt_offGrid u h, raise, offGrid]

variable (hdst : OnGrid dst)
include hdst

theorem copyPixel_onGrid :
    copyPixel src.1 src.2 dst.1 dst.2 u =
      if u.st.checkMask ∧ (px u dst.1 dst.2).c24.m then u
      else { u with vram := putCell (dst.2 * 1024 + dst.1) (taken u.st (px u src.1 src.2)) u.vram } := by
  simp only [copyPixel, pixelAt_onGrid u hsrc, pixelAt_onGrid u hdst, Bool.and_eq_true,
    setPix24_of_pixelNo (pixelNo_of_lt hdst.1 hdst.2)]
  rfl

theorem copyPixel_repainted :
    Repainted dst.1 dst.2 (moved u.st (px u src.1 src.2)) u (copyPixel src.1 src.2 dst.1 dst.2 u) := by
  rw [copyPixel_onGrid u hsrc hdst]
  exact .put_unless hdst rfl

end CopyPixel

/-! ### The moves of the copy one after the other (R437) -/

/-- Step `n` of the copy. -/
def copyStep (o : CopyVV) (n : Nat) : State → State :=
  copyPixel (copySrc o n).1 (copySrc o n).2 (copyDst o n).1 (copyDst o n).2

theorem copyVramVram_eq_forCount (o : CopyVV) (s : State) :
    copyVramVram o s = forCount (o.size.w.toNat * o.size.h.toNat) (copyStep o) s := forGrid_eq_forCount ..

theorem copied_succ (o : CopyVV) (s : State) (n : Nat) :
    copied o s (n + 1) =
      let u := copied o s n
      if s.st.checkMask ∧ (px u (copyDst o n).1 (copyDst o n).2).c24.m then u
      else
        let p := taken s.st (px u (copySrc o n).1 (copySrc o n).2)
        { u with vram := putCell ((copyDst o n).2 * 1024 + (copyDst o n).1) p u.vram } := by
  rw [copied, List.range_succ, List.foldl_append]
  rfl

theorem copied_onlyVram (o : CopyVV) (s : State) (n : Nat) :
    copied o s n = { s with vram := (copied o s n).vram } := by
  induction n with
  | zero => rfl
  | succ n ih =>
    rw [copied_succ]
    dsimp only
    split
    · exact ih
    · rw [ih]

theorem copied_succ_eq_copyStep {o : CopyVV} {n : Nat} (hsrc : OnGrid (copySrc o n)) (hdst : OnGrid (copyDst o n))
    (s : State) : copied o s (n + 1) = copyStep o n (copied o s n) := by
  have status : (copied o s n).st = s.st := by rw [copied_onlyVram]
  rw [copied_succ, copyStep, copyPixel_onGrid _ hsrc hdst, ← status]

/-- As long as the places lie in the grid, the loop makes the moves. -/
theorem forCount_copyStep {o : CopyVV} {n : Nat} (hg : ∀ m < n, OnGrid (copySrc o m) ∧ OnGrid (copyDst o m))
    {s : State} (hs : s.halted = none) : forCount n (copyStep o) s = copied o s n := by
  induction n with
  | zero => rfl
  | succ n ih =>
    obtain ⟨hsrc, hdst⟩ := hg n (by omega)
    have running : live (copied o s n) = true := by rw [copied_onlyVram]; exact (live_iff s).mpr hs
    rw [forCount_succ, ih fun m hm => hg m (by omega), if_pos running, copied_succ_eq_copyStep hsrc hdst]

theorem exec_copyVV {o : CopyVV} (hz : o.size.nonzero = true) (s : State) :
    exec (.copyVV o) s = .next (forCount (o.size.w.toNat * o.size.h.toNat) (copyStep o) s) := by
  rw [← copyVramVram_eq_forCount]
  exact congrArg Host.Outcome.next (if_pos hz)

theorem exec_copyVV_inGrid {o : CopyVV} (hz : o.size.nonzero = true) (hsrc : InGrid o.src o.size)
    (hdst : InGrid o.dst o.size) {s : State} (hs : s.halted = none) :
    exec (.copyVV o) s = .next (copied o s (o.size.w.toNat * o.size.h.toNat)) := by
  rw [exec_copyVV hz, forCount_copyStep (fun m hm => ⟨rectPlace_onGrid hsrc hm, rectPlace_onGrid hdst hm⟩) hs]

/-- The first step that raises a fault ends the copy, with the moves before it made (R543). -/
theorem exec_copyVV_stop {o : CopyVV} (hz : o.size.nonzero = true) {s : State} (hs : s.halted = none) {n : Nat}
    (hn : n < o.size.w.toNat * o.size.h.toNat) (hg : ∀ m < n, OnGrid (copySrc o m) ∧ OnGrid (copyDst o m))
    {p : Nat × Nat} (fault : copyStep o n (copied o s n) = { copied o s n with halted := offGrid p }) :
    exec (.copyVV o) s = .next { copied o s n with halted := offGrid p } := by
  have moves := forCount_copyStep hg hs
  have running : (copied o s n).halted = none := by rw [copied_onlyVram]; exact hs
  rw [exec_copyVV hz, forCount_stop hn (by rw [moves]; exact running) (by rw [moves, fault]; nofun), moves, fault]

/-! ### Rectangles that do not meet -/

/-- While no destination is a source, every move finds both of its pixels as they were at the start. -/
theorem copied_pixels {o : CopyVV} {total : Nat}
    (hg : ∀ m < total, OnGrid (copySrc o m) ∧ OnGrid (copyDst o m))
    (apart : ∀ m < total, ∀ m' < total, copyDst o m ≠ copySrc o m') (s : State) {n : Nat} (hn : n ≤ total) :
    (∀ m < n, px (copied o s n) (copyDst o m).1 (copyDst o m).2 =
      moved s.st (px s (copySrc o m).1 (copySrc o m).2) (px s (copyDst o m).1 (copyDst o m).2)) ∧
    ∀ q, OnGrid q → (∀ m < n, copyDst o m ≠ q) → px (copied o s n) q.1 q.2 = px s q.1 q.2 := by
  induction n with
  | zero => exact ⟨fun m hm => absurd hm (by omega), fun _ _ _ => rfl⟩
  | succ n ih =>
    obtain ⟨done, others⟩ := ih (by omega)
    obtain ⟨hsrc, hdst⟩ := hg n hn
    have step := copyPixel_repainted (copied o s n) hsrc hdst
    have status : (copied o s n).st = s.st := by rw [copied_onlyVram]
    have source : px (copied o s n) (copySrc o n).1 (copySrc o n).2 = px s (copySrc o n).1 (copySrc o n).2 :=
      others _ hsrc fun m hm => apart m (by omega) n hn
    have target : px (copied o s n) (copyDst o n).1 (copyDst o n).2 = px s (copyDst o n).1 (copyDst o n).2 :=
      others _ hdst fun m hm same => absurd (rectPlace_inj same) (by omega)
    rw [copied_succ_eq_copyStep hsrc hdst, copyStep]
    refine ⟨fun m hm => ?_, fun q hq hout => ?_⟩
    · rcases Nat.lt_succ_iff_lt_or_eq.mp hm with before | rfl
      · rw [step.px_other (hg m (by omega)).2 fun same => absurd (rectPlace_inj same) (by omega), done m before]
      · rw [step.px_same hdst, status, source, target]
    · rw [step.px_other hq (hout n (by omega)), others q hq fun m hm => hout m (by omega)]

end Sys2Proof.Machine

/-- Settles O30: the loop makes the moves up to the first place outside the grid, the source's tested first. -/
theorem copyInRowOrder : Obligations.CopyInRowOrder := fun _ _ hs hz =>
  ⟨fun hsrc hdst => exec_copyVV_inGrid hz hsrc hdst hs, fun _ hn hg =>
    ⟨fun off => exec_copyVV_stop hz hs hn hg (copyPixel_src_offGrid _ off),
      fun hsrc off => exec_copyVV_stop hz hs hn hg (copyPixel_dst_offGrid _ hsrc off)⟩⟩

/-- Settles O31: each move finds its two pixels as they were at the start. -/
theorem copyDisjoint : Obligations.CopyDisjoint := by
  intro s o hs hz hsrc hdst hmeet
  refine ⟨_, exec_copyVV_inGrid hz hsrc hdst hs, copied_onlyVram .., fun x y hx hy => ?_⟩
  have grid : ∀ m < o.size.w.toNat * o.size.h.toNat, OnGrid (copySrc o m) ∧ OnGrid (copyDst o m) :=
    fun m hm => ⟨rectPlace_onGrid hsrc hm, rectPlace_onGrid hdst hm⟩
  have apart : ∀ m < o.size.w.toNat * o.size.h.toNat, ∀ m' < o.size.w.toNat * o.size.h.toNat,
      copyDst o m ≠ copySrc o m' := by
    intro m hm m' hm' same
    have target := rectPlace_inBlock o.dst hm
    have source := rectPlace_inBlock o.src hm'
    rw [show rectPlace o.src o.size m' = rectPlace o.dst o.size m from same.symm] at source
    simp only [InBlock] at target source
    omega
  obtain ⟨done, others⟩ := copied_pixels grid apart s le_rfl
  by_cases block : InBlock o.dst.x.toNat o.dst.y.toNat o.size.w.toNat o.size.h.toNat x y
  · obtain ⟨m, hm, place⟩ := (exists_rectPlace_iff o.dst o.size x y).mpr block
    have source : copySrc o m = (x - o.dst.x.toNat + o.src.x.toNat, y - o.dst.y.toNat + o.src.y.toNat) := by
      rw [rectPlace, Prod.mk.injEq] at place
      rw [copySrc, Prod.mk.injEq]
      omega
    have pixel := done m hm
    rw [source, show copyDst o m = (x, y) from place] at pixel
    rw [pixel, moved]
    by_cases kept : s.st.checkMask ∧ (px s x y).c24.m
    · rw [if_pos kept, if_neg fun h => h.2 kept]
    · rw [if_neg kept, if_pos ⟨block, kept⟩]
      rfl
  · rw [if_neg fun h => block h.1]
    exact others (x, y) ⟨hx, hy⟩ fun m hm same => block ((exists_rectPlace_iff ..).mp ⟨m, hm, same⟩)

end

section

open Sys2Proof Sys2Proof.Machine Sys2Proof.Claims

/-! ## The copy from the CPU (O32, O33) -/

namespace Sys2Proof.Machine

/-! ### The headers (R440, R446) -/

section Header

variable {o : CopyXfer} (hz : o.size.nonzero = true) (s : State)
include hz

theorem exec_copyCV : exec (.copyCV o) s = .next (copyCpuVram o s) := congrArg Host.Outcome.next (if_pos hz)

theorem exec_copyVC : exec (.copyVC o) s = .next (copyVramCpu o s) := congrArg Host.Outcome.next (if_pos hz)

end Header

/-! ### One pixel of a data word (R441, R442) -/

theorem stored_eq (st : Status) (v : P15) (old : Pixel) :
    stored st v old =
      if st.checkMask ∧ old.p15.getLsbD 15 then old else ⟨widen (withSetMask st v), withSetMask st v⟩ := by
  have forced : withSetMask st v = if st.setMask then v ||| 0x8000#16 else v := by
    cases h : st.setMask <;> simp [withSetMask, h]
  rw [forced]
  rfl

theorem storePixel_offGrid {p : Nat × Nat} (hg : ¬ OnGrid p) (v : P15) (s : State) :
    storePixel p.1 p.2 v s = { s with halted := offGrid p } := by
  simp [storePixel, pixelAt_offGrid s hg, raise, offGrid]

theorem storePixel_repainted {p : Nat × Nat} (hg : OnGrid p) (v : P15) (s : State) :
    Repainted p.1 p.2 (stored s.st v) s (storePixel p.1 p.2 v s) := by
  simp only [storePixel, pixelAt_onGrid s hg, Bool.and_eq_true, setPix15, setPixel, pixelNo_of_lt hg.1 hg.2]
  exact .put_unless hg (stored_eq ..)

theorem xferAt_inj {t : Xfer} {m n : Nat} (h : xferAt t m = xferAt t n) : m = n :=
  rectPlace_inj (p := ⟨t.x, t.y⟩) (z := ⟨t.w, t.h⟩) h

section Put

variable {s : State} {t : Xfer} (hx : s.xferIn = some t)
include hx

/-- The cursor has passed the place that faults (R543). -/
theorem putPixel_offGrid (hn : t.n < xferTotal t) (hg : ¬ OnGrid (xferAt t t.n)) (v : P15) :
    putPixel v s = { s with xferIn := some { t with n := t.n + 1 }, halted := offGrid (xferAt t t.n) } :=
  (putPixel_of_lt hx hn v).trans (storePixel_offGrid hg v _)

/-- `Put` stores at the cursor's place, if a pixel is left, and nowhere else. -/
theorem putPixel_onGrid (hg : t.n < xferTotal t → OnGrid (xferAt t t.n)) (v : P15) :
    putPixel v s = { s with vram := (putPixel v s).vram, xferIn := some t.pastPixel } ∧
      ∀ q, OnGrid q →
        px (putPixel v s) q.1 q.2 =
          if t.n < xferTotal t ∧ q = xferAt t t.n then stored s.st v (px s q.1 q.2) else px s q.1 q.2 := by
  by_cases hn : t.n < xferTotal t
  · have put : putPixel v s = storePixel (xferAt t t.n).1 (xferAt t t.n).2 v _ := putPixel_of_lt hx hn v
    have store := storePixel_repainted (hg hn) v { s with xferIn := some { t with n := t.n + 1 } }
    rw [← put] at store
    refine ⟨by rw [Xfer.pastPixel_of_lt hn]; exact store.onlyVram, fun q hq => ?_⟩
    by_cases here : q = xferAt t t.n
    · rw [if_pos ⟨hn, here⟩, here]
      exact store.px_same (hg hn)
    · rw [if_neg fun h => here h.2]
      exact store.px_other hq (Ne.symm here)
  · have done : putPixel v s = s := by simp [putPixel, hx, Nat.not_lt.mp hn]
    refine ⟨?_, fun q _ => ?_⟩
    · rw [done, Xfer.pastPixel_of_le (Nat.not_lt.mp hn), ← hx]
    · rw [done, if_neg fun h => hn h.1]

theorem endIn_of_cursor : endIn s = { s with xferIn := t.unfinished } := by
  by_cases h : t.n = xferTotal t
  · simp [endIn, hx, Xfer.unfinished, h]
  · have same : { s with xferIn := some t } = s := by rw [← hx]
    simp [endIn, hx, Xfer.unfinished, h, same]

end Put

/-! ### A data word (R442) -/

theorem dataJob_stop_first {d : Word} {s u : State} (h : putPixel (bits d 0 16) s = u) (hu : u.halted ≠ none) :
    dataJob d s = u := by
  simp [dataJob, h, live, hu]

theorem dataJob_stop_second {d : Word} {s s1 u : State} (h1 : putPixel (bits d 0 16) s = s1) (hs1 : s1.halted = none)
    (h2 : putPixel (bits d 16 16) s1 = u) (hu : u.halted ≠ none) : dataJob d s = u := by
  simp [dataJob, h1, live, hs1, h2, hu]

theorem dataJob_both {d : Word} {s s1 s2 : State} (h1 : putPixel (bits d 0 16) s = s1) (hs1 : s1.halted = none)
    (h2 : putPixel (bits d 16 16) s1 = s2) (hs2 : s2.halted = none) : dataJob d s = endIn s2 := by
  simp [dataJob, h1, live, hs1, h2, hs2]

section DataWord

variable {s : State} {t : Xfer} (hs : s.halted = none) (hx : s.xferIn = some t) (hn : t.n < xferTotal t)
include hx hn

theorem dataJob_first_offGrid (hg : ¬ OnGrid (xferAt t t.n)) (d : Word) :
    dataJob d s = { s with xferIn := some { t with n := t.n + 1 }, halted := offGrid (xferAt t t.n) } :=
  dataJob_stop_first (putPixel_offGrid hx hn hg _) nofun

include hs

theorem dataJob_pair (hg : PairOnGrid t) (d : Word) :
    dataJob d s = { s with vram := (dataJob d s).vram, xferIn := t.pastWord } ∧
      ∀ q, OnGrid q →
        px (dataJob d s) q.1 q.2 =
          if q = xferAt t t.n then stored s.st (bits d 0 16) (px s q.1 q.2)
          else if t.n + 1 < xferTotal t ∧ q = xferAt t (t.n + 1) then stored s.st (bits d 16 16) (px s q.1 q.2)
          else px s q.1 q.2 := by
  have ahead : t.pastPixel = { t with n := t.n + 1 } := Xfer.pastPixel_of_lt hn
  obtain ⟨only1, pixels1⟩ := putPixel_onGrid hx (fun _ => hg.1) (bits d 0 16)
  generalize h1 : putPixel (bits d 0 16) s = s1 at only1 pixels1
  have cursor1 : s1.xferIn = some t.pastPixel := by rw [only1]
  obtain ⟨only2, pixels2⟩ := putPixel_onGrid cursor1 (by rw [ahead]; exact hg.2) (bits d 16 16)
  generalize h2 : putPixel (bits d 16 16) s1 = s2 at only2 pixels2
  have live1 : s1.halted = none := by rw [only1]; exact hs
  have live2 : s2.halted = none := by rw [only2]; exact live1
  have cursor2 : s2.xferIn = some t.pastPixel.pastPixel := by rw [only2]
  rw [dataJob_both h1 live1 h2 live2, endIn_of_cursor cursor2]
  refine ⟨by rw [only2, only1]; rfl, fun q hq => ?_⟩
  refine (pixels2 q hq).trans ?_
  have status : s1.st = s.st := by rw [only1]
  have first := pixels1 q hq
  simp only [hn, true_and] at first
  rw [ahead, status, first]
  by_cases here : q = xferAt t t.n
  · rw [if_pos here, if_pos here]
    refine if_neg fun ⟨_, there⟩ => ?_
    exact absurd (xferAt_inj (here.symm.trans there)) (by simp)
  · rw [if_neg here, if_neg here]
    rfl

theorem dataJob_second_offGrid (hg : OnGrid (xferAt t t.n)) (hn' : t.n + 1 < xferTotal t)
    (hg' : ¬ OnGrid (xferAt t (t.n + 1))) (d : Word) :
    dataJob d s = { s with
      vram := (dataJob d s).vram
      xferIn := some { t with n := t.n + 2 }
      halted := offGrid (xferAt t (t.n + 1)) } ∧
      ∀ q, OnGrid q →
        px (dataJob d s) q.1 q.2 =
          if q = xferAt t t.n then stored s.st (bits d 0 16) (px s q.1 q.2) else px s q.1 q.2 := by
  obtain ⟨only1, pixels1⟩ := putPixel_onGrid hx (fun _ => hg) (bits d 0 16)
  generalize h1 : putPixel (bits d 0 16) s = s1 at only1 pixels1
  rw [Xfer.pastPixel_of_lt hn] at only1
  have cursor1 : s1.xferIn = some { t with n := t.n + 1 } := by rw [only1]
  have live1 : s1.halted = none := by rw [only1]; exact hs
  have second := putPixel_offGrid cursor1 hn' hg' (bits d 16 16)
  rw [dataJob_stop_second h1 live1 second nofun]
  refine ⟨by rw [only1]; rfl, fun q hq => (pixels1 q hq).trans ?_⟩
  simp only [hn, true_and]

end DataWord

end Sys2Proof.Machine

/-- Settles O32: a header of non-zero size only starts its cursor. -/
theorem transferHeaders : Obligations.TransferHeaders := fun s _ hz => ⟨exec_copyCV hz s, exec_copyVC hz s⟩

/-- Settles O33: the two pixels a data word stores, by whether each lies in the grid. -/
theorem dataWordStores : Obligations.DataWordStores := by
  intro s t d hs hx hn
  refine ⟨fun hg => ?_, fun hg => ?_, fun hg hn' hg' => ?_⟩
  · obtain ⟨only, pixels⟩ := dataJob_pair hs hx hn hg d
    rw [Xfer.pastWord_of_lt hn] at only
    exact ⟨_, rfl, only, fun x y hx hy => pixels (x, y) ⟨hx, hy⟩⟩
  · exact congrArg Host.Outcome.next (dataJob_first_offGrid hx hn hg d)
  · obtain ⟨only, pixels⟩ := dataJob_second_offGrid hs hx hn hg hn' hg' d
    exact ⟨_, rfl, only, fun x y hx hy => pixels (x, y) ⟨hx, hy⟩⟩

end

section

open Sys2Proof Sys2Proof.Machine Sys2Proof.Claims

/-! ## The round trip (O34)

The data words leave their halves at the places of the rectangle in row order; the reads find them there. -/

namespace Sys2Proof.Machine

/-! ### Pixels and data words (R164) -/

/-- Pixel `i` of the data words, the earlier of a word in its low half. -/
def wordPixel (data : List Word) (i : Nat) : P15 := bits (data.getD (i / 2) 0) (i % 2 * 16) 16

@[simp] theorem wordPixel_zero (w : Word) (ws : List Word) : wordPixel (w :: ws) 0 = bits w 0 16 := rfl

@[simp] theorem wordPixel_one (w : Word) (ws : List Word) : wordPixel (w :: ws) 1 = bits w 16 16 := rfl

@[simp] theorem wordPixel_add_two (w : Word) (ws : List Word) (i : Nat) :
    wordPixel (w :: ws) (i + 2) = wordPixel ws i := by
  simp [wordPixel]

/-- The words that carry `left` pixels as a readback returns them, one after the other. -/
def wordsBack : Nat → List Word → List Word
  | _, [] => []
  | left, w :: ws => (if left = 1 then w &&& 0xFFFF#32 else w) :: wordsBack (left - 2) ws

theorem wordsBack_eq {left : Nat} {data : List Word} (hl : data.length = (left + 1) / 2) :
    (if left % 2 = 0 then data else data.dropLast ++ (data.getLast?.map fun w => w &&& 0xFFFF#32).toList) =
      wordsBack left data := by
  induction data generalizing left with
  | nil => simp [wordsBack]
  | cons w ws ih =>
    cases ws with
    | nil =>
      obtain rfl | rfl : left = 1 ∨ left = 2 := by simp at hl; omega
      · simp [wordsBack]
      · simp [wordsBack]
    | cons v vs =>
      have more : left ≠ 1 ∧ (left - 2) % 2 = left % 2 := by simp at hl; omega
      rw [wordsBack, if_neg more.1, ← ih (by simp at hl ⊢; omega), more.2]
      split <;> simp

theorem readBack_eq_wordsBack {z : SizeWH} {data : List Word} (hl : data.length = dataWords z) :
    readBack z data = wordsBack (z.w.toNat * z.h.toNat) data := wordsBack_eq hl

theorem halves_append (w : Word) : bits w 16 16 ++ bits w 0 16 = w := by
  apply BitVec.eq_of_getLsbD_eq
  intro i hi
  rw [BitVec.getLsbD_append, bits_getLsbD, bits_getLsbD]
  by_cases h : i < 16
  · simp [h]
  · have : i - 16 < 16 ∧ 16 + (i - 16) = i := by omega
    simp [h, this]

theorem zero_append_low (w : Word) : 0#16 ++ bits w 0 16 = w &&& 0xFFFF#32 := by
  apply BitVec.eq_of_getLsbD_eq
  intro i hi
  rw [BitVec.getLsbD_append, bits_getLsbD, BitVec.getLsbD_and]
  interval_cases i <;> simp

/-! ### The pixels a transfer has still to move -/

/-- How many pixels are left. -/
def Xfer.left (t : Xfer) : Nat := xferTotal t - t.n

/-- The place `i` pixels after the next one. -/
def Xfer.ahead (t : Xfer) (i : Nat) : Nat × Nat := xferAt t (t.n + i)

/-- The cursor two pixels further. -/
def Xfer.skipWord (t : Xfer) : Xfer := { t with n := t.n + 2 }

theorem Xfer.lt_left_iff (t : Xfer) (i : Nat) : i < t.left ↔ t.n + i < xferTotal t := Nat.lt_sub_iff_add_lt'

theorem Xfer.lt_of_left_pos {t : Xfer} (h : 0 < t.left) : t.n < xferTotal t := (t.lt_left_iff 0).mp h

theorem Xfer.left_skipWord (t : Xfer) : t.skipWord.left = t.left - 2 := Nat.sub_add_eq ..

theorem Xfer.ahead_skipWord (t : Xfer) (i : Nat) : t.skipWord.ahead i = t.ahead (i + 2) :=
  congrArg (xferAt t) (Nat.add_right_comm ..)

theorem Xfer.ahead_inj {t : Xfer} {i j : Nat} (h : t.ahead i = t.ahead j) : i = j := Nat.add_left_cancel (xferAt_inj h)

theorem Xfer.pastWord_of_left_pos {t : Xfer} (h : 0 < t.left) :
    t.pastWord = if t.left ≤ 2 then none else some t.skipWord := by
  have last : xferTotal t ≤ t.n + 2 ↔ t.left ≤ 2 := (Nat.sub_le_iff_le_add').symm
  simp only [Xfer.pastWord_of_lt (Xfer.lt_of_left_pos h), last, Xfer.skipWord]

/-- The places still to be moved lie in the grid. -/
def RestOnGrid (t : Xfer) : Prop := ∀ i < t.left, OnGrid (t.ahead i)

/-- No place still to be moved is protected. -/
def RestFree (s : State) (t : Xfer) : Prop :=
  s.st.checkMask = true → ∀ i < t.left, (px s (t.ahead i).1 (t.ahead i).2).p15.getLsbD 15 = false

/-- The places still to be moved hold the pixels of the data words. -/
def RestHolds (s : State) (t : Xfer) (data : List Word) : Prop :=
  ∀ i < t.left, (px s (t.ahead i).1 (t.ahead i).2).p15 = wordPixel data i

/-- `q` is no place still to be moved. -/
def OffRest (t : Xfer) (q : Nat × Nat) : Prop := ∀ i < t.left, q ≠ t.ahead i

theorem RestOnGrid.pair {t : Xfer} (h : RestOnGrid t) (hl : 0 < t.left) : PairOnGrid t :=
  ⟨h 0 hl, fun hn => h 1 ((t.lt_left_iff 1).mpr hn)⟩

theorem Xfer.add_two_lt_left {t : Xfer} {i : Nat} (h : i < t.skipWord.left) : i + 2 < t.left :=
  Nat.add_lt_of_lt_sub (t.left_skipWord ▸ h)

theorem RestOnGrid.skipWord {t : Xfer} (h : RestOnGrid t) : RestOnGrid t.skipWord := fun i hi => by
  rw [Xfer.ahead_skipWord]
  exact h (i + 2) (Xfer.add_two_lt_left hi)

theorem OffRest.skipWord {t : Xfer} {q : Nat × Nat} (h : OffRest t q) : OffRest t.skipWord q := fun i hi => by
  rw [Xfer.ahead_skipWord]
  exact h (i + 2) (Xfer.add_two_lt_left hi)

theorem offRest_skipWord_ahead {t : Xfer} {i : Nat} (hi : i < 2) : OffRest t.skipWord (t.ahead i) := fun j _ same => by
  rw [Xfer.ahead_skipWord] at same
  exact absurd (Xfer.ahead_inj same) (by omega)

/-- The pixels of the first word and those of the others. -/
theorem restHolds_cons {u : State} {t : Xfer} {d : Word} {ws : List Word}
    (first : ∀ i < 2, i < t.left → (px u (t.ahead i).1 (t.ahead i).2).p15 = wordPixel (d :: ws) i)
    (others : RestHolds u t.skipWord ws) : RestHolds u t (d :: ws) := by
  intro i hi
  by_cases word : i < 2
  · exact first i word hi
  · obtain ⟨j, rfl⟩ := Nat.exists_eq_add_of_le' (Nat.not_lt.mp word)
    have left := t.left_skipWord
    rw [wordPixel_add_two, ← Xfer.ahead_skipWord, others j (by omega)]

theorem RestHolds.skipWord {s : State} {t : Xfer} {d : Word} {ws : List Word} (h : RestHolds s t (d :: ws)) :
    RestHolds s t.skipWord ws := fun i hi => by
  rw [Xfer.ahead_skipWord, ← wordPixel_add_two d]
  exact h (i + 2) (Xfer.add_two_lt_left hi)

theorem RestHolds.of_vram {s u : State} (hv : u.vram = s.vram) {t : Xfer} {data : List Word} (h : RestHolds s t data) :
    RestHolds u t data := fun i hi => by
  rw [px, pixelOf_congr hv]
  exact h i hi

/-! ### Writing the data words (R442) -/

theorem stored_p15 {st : Status} (hst : st.setMask = false) (v : P15) {old : Pixel}
    (free : st.checkMask = true → old.p15.getLsbD 15 = false) : (stored st v old).p15 = v := by
  rw [stored_eq, if_neg fun h => absurd h.2 (ne_true_of_eq_false (free h.1))]
  simp [withSetMask, hst]

section DataWord

variable {s : State} {t : Xfer} (hs : s.halted = none) (hx : s.xferIn = some t) (hl : 0 < t.left)
  (grid : RestOnGrid t)
include hs hx hl grid

theorem dataJob_px (d : Word) {q : Nat × Nat} (hq : OnGrid q) :
    px (dataJob d s) q.1 q.2 =
      if q = t.ahead 0 then stored s.st (bits d 0 16) (px s q.1 q.2)
      else if 1 < t.left ∧ q = t.ahead 1 then stored s.st (bits d 16 16) (px s q.1 q.2)
      else px s q.1 q.2 := by
  have pixel := (dataJob_pair hs hx (Xfer.lt_of_left_pos hl) (grid.pair hl) d).2 q hq
  simp only [← t.lt_left_iff] at pixel
  exact pixel

theorem dataJob_px_other (d : Word) {q : Nat × Nat} (hq : OnGrid q) (hne : ∀ i < 2, i < t.left → q ≠ t.ahead i) :
    px (dataJob d s) q.1 q.2 = px s q.1 q.2 := by
  rw [dataJob_px hs hx hl grid d hq, if_neg (hne 0 (by decide) hl), if_neg fun h => hne 1 (by decide) h.1 h.2]

theorem dataJob_px_ahead (hst : s.st.setMask = false) (free : RestFree s t) (d : Word) (ws : List Word) {i : Nat}
    (hi : i < 2) (hil : i < t.left) :
    (px (dataJob d s) (t.ahead i).1 (t.ahead i).2).p15 = wordPixel (d :: ws) i := by
  rw [dataJob_px hs hx hl grid d (grid i hil)]
  obtain rfl | rfl : i = 0 ∨ i = 1 := by omega
  · rw [if_pos rfl, wordPixel_zero]
    exact stored_p15 hst _ fun on => free on 0 hil
  · rw [if_neg fun h => absurd (Xfer.ahead_inj h) (by decide), if_pos ⟨hil, rfl⟩, wordPixel_one]
    exact stored_p15 hst _ fun on => free on 1 hil

theorem dataJob_restFree (free : RestFree s t) (d : Word) : RestFree (dataJob d s) t.skipWord := by
  intro on i hi
  have status : (dataJob d s).st = s.st := by
    rw [(dataJob_pair hs hx (Xfer.lt_of_left_pos hl) (grid.pair hl) d).1]
  have place := Xfer.add_two_lt_left hi
  rw [Xfer.ahead_skipWord, dataJob_px_other hs hx hl grid d (grid _ place) fun j hj _ same =>
    absurd (Xfer.ahead_inj same) (by omega)]
  exact free (status ▸ on) (i + 2) place

end DataWord

/-- The data words of a copy store their pixels at the places left, and nothing else changes. -/
theorem runJobs_data {data : List Word} {s : State} {t : Xfer} (hs : s.halted = none) (hx : s.xferIn = some t)
    (hl : 0 < t.left) (grid : RestOnGrid t) (hst : s.st.setMask = false) (free : RestFree s t)
    (hlen : data.length = (t.left + 1) / 2) :
    ∃ u, runJobs (data.map .data) s = .next u ∧ u = { s with vram := u.vram, xferIn := none } ∧
      RestHolds u t data ∧ ∀ q, OnGrid q → OffRest t q → px u q.1 q.2 = px s q.1 q.2 := by
  induction data generalizing s t with
  | nil => simp only [List.length_nil] at hlen; omega
  | cons d ws ih =>
    simp only [List.length_cons] at hlen
    have only := (dataJob_pair hs hx (Xfer.lt_of_left_pos hl) (grid.pair hl) d).1
    have holds (i : Nat) := dataJob_px_ahead hs hx hl grid hst free d ws (i := i)
    have others {q : Nat × Nat} := dataJob_px_other hs hx hl grid d (q := q)
    have free1 := dataJob_restFree hs hx hl grid free d
    have running : (dataJob d s).halted = none := by rw [only]; exact hs
    have first : runJobs ((d :: ws).map .data) s = runJobs (ws.map .data) (dataJob d s) :=
      andThen_live ((live_iff _).mpr running) _
    rw [first]
    generalize dataJob d s = s1 at only holds others free1 running
    rw [Xfer.pastWord_of_left_pos hl] at only
    by_cases last : t.left ≤ 2
    · obtain rfl : ws = [] := List.length_eq_zero_iff.mp (by omega)
      rw [if_pos last] at only
      exact ⟨s1, rfl, only, fun i hi => holds i (by omega) hi, fun q hq off => others hq fun i _ hi => off i hi⟩
    · rw [if_neg last] at only
      have left := t.left_skipWord
      obtain ⟨u, hu, onlyu, holdsu, othersu⟩ := ih running (by rw [only]) (by omega) grid.skipWord
        (by rw [only]; exact hst) free1 (by omega)
      refine ⟨u, hu, onlyu.trans (by rw [only]), restHolds_cons (fun i hi hil => ?_) holdsu, fun q hq off => ?_⟩
      · rw [othersu _ (grid i hil) (offRest_skipWord_ahead hi), holds i hi hil]
      · rw [othersu q hq off.skipWord, others hq fun i _ hi => off i hi]

/-! ### Reading the words back (R448) -/

/-- The word that a read makes of the next two pixels is the one they came from. -/
theorem readWord_eq {s : State} {t : Xfer} {d : Word} {ws : List Word} (hl : 0 < t.left)
    (holds : RestHolds s t (d :: ws)) :
    laterPixel s t ++ (px s (xferAt t t.n).1 (xferAt t t.n).2).p15 =
      if t.left = 1 then d &&& 0xFFFF#32 else d := by
  have low : (px s (xferAt t t.n).1 (xferAt t t.n).2).p15 = bits d 0 16 := (holds 0 hl).trans (wordPixel_zero d ws)
  have ends : t.n + 1 ≥ xferTotal t ↔ t.left = 1 := by
    simp only [Xfer.left] at hl ⊢
    omega
  simp only [laterPixel, ends, low]
  split
  · exact zero_append_low d
  · rename_i more
    have high : (px s (xferAt t (t.n + 1)).1 (xferAt t (t.n + 1)).2).p15 = bits d 16 16 :=
      (holds 1 (by omega)).trans (wordPixel_one d ws)
    rw [high, halves_append]

/-- Reads return the data words whose pixels stand at the places left, in order. -/
theorem readData_words {data : List Word} {s : State} {t : Xfer} (hs : s.halted = none) (hx : s.xferOut = some t)
    (hl : 0 < t.left) (grid : RestOnGrid t) (holds : RestHolds s t data) (hlen : data.length = (t.left + 1) / 2) :
    let u := readData^[data.length] s
    u.halted = none ∧ u.outputs = ((wordsBack t.left data).map .readData).reverse ++ s.outputs := by
  induction data generalizing s t with
  | nil => simp only [List.length_nil] at hlen; omega
  | cons d ws ih =>
    simp only [List.length_cons] at hlen
    have read := readData_pair hs hx (Xfer.lt_of_left_pos hl) (grid.pair hl)
    simp only [readWord_eq hl holds] at read
    simp only [List.length_cons, Function.iterate_succ_apply, wordsBack]
    have shown : (readData s).outputs = .readData (if t.left = 1 then d &&& 0xFFFF#32 else d) :: s.outputs := by
      rw [read]
    have running : (readData s).halted = none := by rw [read]; exact hs
    have vram : (readData s).vram = s.vram := by rw [read]
    have cursor : (readData s).xferOut = if t.left ≤ 2 then none else some t.skipWord := by
      rw [read, ← Xfer.pastWord_of_left_pos hl, Xfer.pastWord_of_lt (Xfer.lt_of_left_pos hl)]
    generalize readData s = s1 at shown running vram cursor
    by_cases last : t.left ≤ 2
    · obtain rfl : ws = [] := List.length_eq_zero_iff.mp (by omega)
      exact ⟨running, by simpa [wordsBack] using shown⟩
    · rw [if_neg last] at cursor
      have left := t.left_skipWord
      obtain ⟨halted, outputs⟩ := ih running cursor (by omega) grid.skipWord (holds.skipWord.of_vram vram) (by omega)
      refine ⟨halted, outputs.trans ?_⟩
      rw [shown, left]
      simp

/-! ### The two commands and the data between them -/

/-- The words of the round trip that are written. -/
def roundTripWords (o : CopyXfer) (data : List Word) : List Word := encode (.copyCV o) ++ data ++ encode (.copyVC o)

/-- Their jobs. -/
def roundTripJobs (o : CopyXfer) (data : List Word) : List Job :=
  .cmd (encode (.copyCV o)) :: (data.map .data ++ [.cmd (encode (.copyVC o))])

section RoundTrip

variable {o : CopyXfer} (hz : o.size.nonzero = true)
include hz

/-- The words of COPY_CV enqueue its job and open the data phase (R195). -/
theorem feeds_copyCV :
    Feeds .idle (encode (.copyCV o)) (.dataIn (dataWords o.size)) [.cmd (encode (.copyCV o))] :=
  feeds_command (op := 0xA0#8) rfl (opcodeOf_opWord _) rfl
    (complete_copy (ws := encode (.copyCV o)) (congrArg some (SizeWH.ofWord_toWord o.size)) hz)

/-- The words of COPY_VC enqueue its job (R195). -/
theorem feeds_copyVC : Feeds .idle (encode (.copyVC o)) .idle [.cmd (encode (.copyVC o))] :=
  feeds_command (op := 0xC0#8) rfl (opcodeOf_opWord _) rfl
    (complete_copy (ws := encode (.copyVC o)) (congrArg some (SizeWH.ofWord_toWord o.size)) hz)

theorem feeds_roundTrip {data : List Word} (hlen : data.length = dataWords o.size) :
    Feeds .idle (roundTripWords o data) .idle (roundTripJobs o data) :=
  ((feeds_copyCV hz).append (feeds_data (dataWords_pos hz) hlen)).append (feeds_copyVC hz)

/-- After the jobs the rectangle holds the pixels of the data words, and the readback stands at its first pixel. -/
theorem runJobs_roundTrip {s : State} (hs : s.halted = none) (hst : s.st.setMask = false) {data : List Word}
    (grid : RestOnGrid (startXfer o)) (free : RestFree s (startXfer o)) (hlen : data.length = dataWords o.size) :
    ∃ u, runJobs (roundTripJobs o data) s = .next (copyVramCpu o u) ∧ u.halted = none ∧ u.outputs = s.outputs ∧
      RestHolds u (startXfer o) data := by
  have started : live (copyCpuVram o s) = true := (live_iff s).mpr hs
  obtain ⟨u, stores, only, holds, -⟩ := runJobs_data (s := copyCpuVram o s) (t := startXfer o) hs rfl
    (xferTotal_startXfer_pos hz) grid hst free hlen
  have running : u.halted = none := by rw [only]; exact hs
  refine ⟨u, ?_, running, by rw [only]; rfl, holds⟩
  rw [roundTripJobs, runJobs, runJob_cmd (decode_of_encode rfl rfl), exec_copyCV hz, andThen_live started,
    runJobs_append _ _ started, stores, andThen_live ((live_iff u).mpr running), runJobs,
    runJob_cmd (decode_of_encode rfl rfl), exec_copyVC hz]
  exact andThen_pure _

end RoundTrip

theorem restOnGrid_startXfer {o : CopyXfer} (hg : InGrid o.pos o.size) : RestOnGrid (startXfer o) := fun i hi =>
  rectPlace_onGrid (n := 0 + i) hg (by rwa [Nat.zero_add])

theorem restFree_startXfer {o : CopyXfer} {s : State}
    (h : s.st.checkMask = true → ∀ x y : Nat,
      InBlock o.pos.x.toNat o.pos.y.toNat o.size.w.toNat o.size.h.toNat x y → (px s x y).p15.getLsbD 15 = false) :
    RestFree s (startXfer o) := fun on i hi =>
  h on _ _ (rectPlace_inBlock (n := 0 + i) o.pos (by rwa [Nat.zero_add]))

end Sys2Proof.Machine

/-- Settles O34: the jobs of the words leave the data in the rectangle, and the reads latch it word by word. -/
theorem roundTrip : Obligations.RoundTrip := by
  intro s o data rest hidle hst hz hg free hlen
  have grid := restOnGrid_startXfer hg
  have words : Feeds s.dec (roundTripWords o data) .idle (roundTripJobs o data) := by
    rw [hidle]
    exact feeds_roundTrip hz hlen
  obtain ⟨u, jobs, running, outputs, holds⟩ :=
    runJobs_roundTrip hz rest.noFault hst grid (restFree_startXfer free) hlen
  have written := writeAll_of_feeds rest.noFault rest.queueEmpty words jobs running
  obtain ⟨halted, shown⟩ := readData_words (s := settle true ((copyVramCpu o u).between .idle)) (t := startXfer o)
    running rfl (xferTotal_startXfer_pos hz) grid holds hlen
  refine ⟨_, written, running, ?_⟩
  rw [readBack_eq_wordsBack hlen, ← hlen, ← outputs]
  exact ⟨halted, shown⟩

end

section

open Sys2Proof Sys2Proof.Machine Sys2Proof.Claims

/-! ## The drawing environment (O18 to O21) -/

namespace Sys2Proof

/-- A GP0 command of one word is read from that word (R150). -/
theorem decode_oneWord {w : Word} {op : BitVec 8} {i : Instr} (opcode : opcodeOf w = op)
    (words : gp0Words op = some 1) (build : buildGp0 op [w] = some i) : decode .gp0 [w] = .ok (i, []) := by
  simp [decode, opcode, polylineOf_of_gp0Words words, words, build]

/-! ### Two words that agree in neighbouring fields (R11) -/

theorem bits_eq_append {x y : Word} {lo m n : Nat} (low : bits x lo m = bits y lo m)
    (high : bits x (lo + m) n = bits y (lo + m) n) : bits x lo (m + n) = bits y lo (m + n) := by
  apply BitVec.eq_of_getLsbD_eq
  intro i hi
  rw [bits_getLsbD, bits_getLsbD]
  congr 1
  by_cases inLow : i < m
  · exact Machine.bit_eq_of_bits_eq low (by omega) (by omega)
  · exact Machine.bit_eq_of_bits_eq high (by omega) (by omega)

theorem bits_one_eq {x y : Word} {i : Nat} (h : bit x i = bit y i) : bits x i 1 = bits y i 1 := by
  apply BitVec.eq_of_getLsbD_eq
  intro j hj
  obtain rfl : j = 0 := by omega
  rw [bits_getLsbD, bits_getLsbD]
  exact congrArg (decide (0 < 1) && ·) h

end Sys2Proof

namespace Sys2Proof.Machine

/-! ### The texture window (R465) -/

/-- The four fields of an `E2` word make up its bits 19:0 (R158). -/
theorem bits_eq_of_texWin_eq {x y : Word} (h : TexWin.ofWord x = TexWin.ofWord y) : bits x 0 20 = bits y 0 20 := by
  obtain ⟨maskX, maskY, offsetX, offsetY⟩ := TexWin.mk.inj h
  exact bits_eq_append (bits_eq_append (bits_eq_append maskX maskY) offsetX) offsetY

theorem twRawOf_ofWord (w : Word) : twRawOf (.ofWord w) = bits w 0 20 :=
  bits_eq_of_texWin_eq (TexWin.ofWord_toWord _ _)

theorem wide_eq_ofNat (x : BitVec 5) : (x ++ 0#3 : BitVec 8) = BitVec.ofNat 8 (x.toNat * 8) := by
  rw [← toNat_wide, BitVec.ofNat_toNat, BitVec.setWidth_eq]

theorem not_ofNat_eq_ofInt (w n : Nat) : ~~~BitVec.ofNat w n = BitVec.ofInt w (-n - 1) := by
  rw [BitVec.not_eq_neg_add, Int.sub_eq_add_neg, BitVec.ofInt_add, BitVec.ofInt_neg, BitVec.ofInt_neg,
    BitVec.ofInt_natCast, BitVec.ofInt_ofNat, BitVec.sub_eq_add_neg]

theorem preMask_eq_ofInt (mask : BitVec 5) : preMask mask = BitVec.ofInt 8 (-(mask.toNat * 8 : Int) - 1) := by
  rw [preMask, wide_eq_ofNat, not_ofNat_eq_ofInt, Nat.cast_mul, Nat.cast_ofNat]

theorem postMask_eq_ofNat (offset mask : BitVec 5) :
    postMask offset mask = BitVec.ofNat 8 ((offset &&& mask).toNat * 8) := wide_eq_ofNat _

/-! ### GPUSTAT after DRAWMODE (R25, R462) -/

theorem unpackStatus_gpustat (s : State) : unpackStatus (gpustat s) = s.st := unpackStatus_packStatus _ _ _

/-- GPUSTAT shows bits 10:0 of the word in its own bits 10:0 and bit 11 in bit 15: each field stands at the same place
in both, but for `texDisable`. -/
theorem gpustat_of_exec_drawMode {w : Word} {s t : State} (h : exec (.drawMode (.ofWord w)) s = .next t) :
    bits (gpustat t) 0 11 = bits w 0 11 ∧ bit (gpustat t) 15 = bit w 11 := by
  have shown : unpackStatus (gpustat t) = t.st := unpackStatus_gpustat t
  obtain rfl := Host.Outcome.next.inj h
  have page := bits_eq_append (congrArg Status.texPageX shown) (congrArg Status.texPageY shown)
  have modes := bits_eq_append (bits_eq_append page (congrArg Status.semiMode shown)) (congrArg Status.texDepth shown)
  have dither := bits_one_eq (congrArg Status.dither shown)
  have toDisplay := bits_one_eq (congrArg Status.drawToDisplay shown)
  exact ⟨bits_eq_append (bits_eq_append modes dither) toDisplay, congrArg Status.texDisable shown⟩

end Sys2Proof.Machine

/-- Settles O18: the fields are the operand's, and GPUSTAT shows them where the word has them. -/
theorem drawModeResult : Obligations.DrawModeResult := fun w _ opcode =>
  ⟨.ofWord w, decode_oneWord opcode rfl rfl, _, rfl, rfl, gpustat_of_exec_drawMode rfl⟩

/-- Settles O19: the raw fields are the word's own bits, and the masks' bit operations are the arithmetic ones in
8 bits. -/
theorem texWinResult : Obligations.TexWinResult := by
  intro w s opcode
  refine ⟨.ofWord w, decode_oneWord opcode rfl rfl, ?_⟩
  rw [← twRawOf_ofWord, ← preMask_eq_ofInt, ← preMask_eq_ofInt, ← postMask_eq_ofNat, ← postMask_eq_ofNat]
  rfl

/-- Settles O20: the area is half-open, and a 10-bit or 9-bit exclusive bound leaves out the last column or row. -/
theorem drawingAreaResult : Obligations.DrawingAreaResult := by
  intro w s
  refine ⟨fun opcode => ⟨.ofWord w, decode_oneWord opcode rfl rfl, _, rfl, rfl, fun x y inside => ?_⟩,
    fun opcode => ⟨.ofWord w, decode_oneWord opcode rfl rfl, _, rfl, rfl, fun x y inside => ?_, fun empty x y => ?_⟩⟩
  · obtain ⟨left, -, top, -⟩ := (area_iff_inArea ..).mp inside
    exact ⟨left, top⟩
  · obtain ⟨-, right, -, bottom⟩ := (area_iff_inArea ..).mp inside
    have := (bits w 0 10).isLt
    have := (bits w 10 9).isLt
    exact ⟨right, bottom, by omega, by omega⟩
  · exact Bool.eq_false_of_not_eq_true (inArea_of_empty empty x y)

/-- Settles O21: the offsets are the word's own 11-bit fields, read as signed. -/
theorem offsetAndMaskResult : Obligations.OffsetAndMaskResult := by
  intro w s
  refine ⟨fun opcode => ⟨.ofWord w, decode_oneWord opcode rfl rfl, _, rfl, rfl, ?_⟩,
    fun opcode => ⟨.ofWord w, decode_oneWord opcode rfl rfl, rfl⟩⟩
  have range (x : BitVec 11) : -1024 ≤ x.toInt ∧ x.toInt ≤ 1023 := ⟨x.le_toInt, Int.le_of_lt_add_one x.toInt_lt⟩
  obtain ⟨lowX, highX⟩ := range (bits w 0 11)
  obtain ⟨lowY, highY⟩ := range (bits w 11 11)
  exact ⟨lowX, highX, lowY, highY⟩

end


section

open Sys2Proof Sys2Proof.Machine Sys2Proof.Claims

/-! ## The GP1 commands, display timing, the halted block and power-on (O9, O11, O16, O22 to O27, O58) -/

namespace Sys2Proof

/-! ### Control words (R162, R480) -/

/-- The numbers that are no GP1 command (R163 (c)). -/
theorem buildGp1_eq_none {w : Word} (above : (opcodeOf w).toNat > 8) (other : (opcodeOf w).toNat ≠ 0x10) :
    buildGp1 w = none := by
  unfold buildGp1
  split
  case h_11 => rfl
  all_goals omega

/-! ### Fields moved or joined (R11) -/

theorem bits_ushiftRight (w : Word) (k lo n : Nat) : bits (w >>> k) lo n = bits w (k + lo) n := by
  apply BitVec.eq_of_getLsbD_eq
  intro i hi
  rw [bits_getLsbD, bits_getLsbD, BitVec.getLsbD_ushiftRight, Nat.add_assoc]

theorem bit_ushiftRight (w : Word) (k i : Nat) : bit (w >>> k) i = bit w (k + i) := BitVec.getLsbD_ushiftRight ..

theorem place_zero_eq_ofNat {n : Nat} (x : BitVec n) : place 0 x = BitVec.ofNat 32 x.toNat := by
  apply BitVec.eq_of_toNat_eq
  simp [place]

/-- A field directly above another: together they are one number (R496). -/
theorem place_or_place_eq_ofNat {n k : Nat} (high : BitVec n) (low : BitVec k) :
    place k high ||| place 0 low = BitVec.ofNat 32 (high.toNat * 2 ^ k + low.toNat) := by
  have joined : high.toNat * 2 ^ k + low.toNat = high.toNat <<< k ||| low.toNat := by
    rw [Nat.shiftLeft_eq, Nat.mul_comm, Nat.two_pow_add_eq_or_of_lt low.isLt]
  apply BitVec.eq_of_toNat_eq
  rw [joined, place_zero_eq_ofNat, BitVec.toNat_or, BitVec.toNat_ofNat, BitVec.toNat_ofNat, Nat.or_mod_two_pow]
  simp [place, Nat.shiftLeft_eq, Nat.mod_mul_mod]

theorem eq_of_two_bits (d : BitVec 2) : d = 0#2 ∨ d = 1#2 ∨ d = 2#2 ∨ d = 3#2 := by
  revert d
  decide

end Sys2Proof

namespace Sys2Proof.Machine

/-! ### GPUSTAT after G1_RESET and at power-on (R32) -/

/-- Without vertical interlace no bit of the reset word is free (R28). -/
theorem packStatus_reset (odd free : Bool) :
    packStatus Status.reset odd free = if odd then 0x94802000#32 else 0x14802000#32 := by
  revert odd free
  decide

/-! ### The outputs of the display registers (R494, R522) -/

theorem hresPixels_eq (st : Status) :
    hresPixels st = if st.hres2 then 368 else [256, 320, 512, 640].getD st.hres1.toNat 0 := by
  rcases eq_of_two_bits st.hres1 with h | h | h | h <;> simp [hresPixels, h]

theorem dotDiv_eq (st : Status) :
    dotDiv st = if st.hres2 then 7 else [10, 8, 5, 4].getD st.hres1.toNat 0 := by
  rcases eq_of_two_bits st.hres1 with h | h | h | h <;> simp [dotDiv, h]

/-- Every count is below the first end or above the second (R490). -/
theorem hblank_of_reversed {s : State} (h : s.disp.x1.toNat > s.disp.x2.toNat) : hblank s = true :=
  decide_eq_true (by omega)

theorem vblank_of_reversed {s : State} (h : s.disp.y1.toNat > s.disp.y2.toNat) : vblank s = true :=
  decide_eq_true (by omega)

/-! ### G1_DISPMODE (R492, R493) -/

theorem exec_dispMode_reverse {o : DispMode} (h : o.reverse = true) (s : State) :
    exec (.g1DispMode o) s = .next (raise (.unsupportedFeature .reverseFlag 0x08#8) s) :=
  congrArg Host.Outcome.next (if_pos h)

theorem exec_dispMode {o : DispMode} (h : o.reverse = false) (s : State) :
    exec (.g1DispMode o) s = .next { s with
      st := { s.st with
        hres1 := o.hres1, vres := o.vres, videoMode := o.videoMode, depth24 := o.depth24,
        vInterlace := o.vInterlace, hres2 := o.hres2 } } :=
  congrArg Host.Outcome.next (if_neg (by simp [h]))

/-- GPUSTAT shows the mode fields of the word 17 bits higher, in the word's order, but for `hres2`, which stands below
them. -/
theorem gpustat_of_exec_dispMode {w : Word} {s t : State} (plain : bit w 7 = false)
    (h : exec (.g1DispMode (.ofWord w)) s = .next t) :
    bit (gpustat t) 16 = bit w 6 ∧ bits (gpustat t) 17 6 = bits w 0 6 := by
  have fields := Host.Outcome.next.inj (h.symm.trans (exec_dispMode plain s))
  have shown := (unpackStatus_gpustat t).trans (congrArg State.st fields)
  have moved {lo n : Nat} {x : BitVec n} (field : bits (gpustat t) (17 + lo) n = x) :
      bits (gpustat t >>> 17) lo n = x := (bits_ushiftRight ..).trans field
  have flag {i : Nat} {b : Bool} (field : bit (gpustat t) (17 + i) = b) : bit (gpustat t >>> 17) i = b :=
    (bit_ushiftRight ..).trans field
  have hres1 := moved (lo := 0) (congrArg Status.hres1 shown)
  have vres := bits_one_eq (flag (i := 2) (congrArg Status.vres shown))
  have videoMode := bits_one_eq (flag (i := 3) (congrArg Status.videoMode shown))
  have depth24 := bits_one_eq (flag (i := 4) (congrArg Status.depth24 shown))
  have vInterlace := bits_one_eq (flag (i := 5) (congrArg Status.vInterlace shown))
  have mode := bits_eq_append (bits_eq_append (bits_eq_append (bits_eq_append hres1 vres) videoMode) depth24) vInterlace
  exact ⟨congrArg Status.hres2 shown, (bits_ushiftRight _ 17 0 6).symm.trans mode⟩

/-- Without vertical interlace bit 13 is not free (R28). -/
theorem bit_gpustat_interlace (s : State) (h : s.st.vInterlace = false) : bit (gpustat s) 13 = true := by
  simp [gpustat, bit_packStatus_interlace, interlaceBit, h]

/-! ### G1_GETINFO (R496) -/

/-- The indices without a reply (R163 (e)). -/
theorem gpuInfo_eq_none (s : State) {i : BitVec 4} (h2 : i ≠ 2#4) (h3 : i ≠ 3#4) (h4 : i ≠ 4#4) (h5 : i ≠ 5#4)
    (h7 : i ≠ 7#4) (h8 : i ≠ 8#4) : gpuInfo s i = none := by
  rw [ne_eq, ← BitVec.toNat_inj] at h2 h3 h4 h5 h7 h8
  unfold gpuInfo
  split
  case h_7 => rfl
  all_goals contradiction

/-- The latch after G1_GETINFO, with the replies as numbers. -/
theorem gpuInfo_getD (s : State) (i : BitVec 4) :
    (gpuInfo s i).getD s.gpuread =
      if i = 2#4 then BitVec.ofNat 32 s.env.twRaw.toNat
      else if i = 3#4 then BitVec.ofNat 32 (s.env.areaTop.toNat * 1024 + s.env.areaLeft.toNat)
      else if i = 4#4 then BitVec.ofNat 32 (s.env.areaBottom.toNat * 1024 + s.env.areaRight.toNat)
      else if i = 5#4 then BitVec.ofNat 32 (s.env.offY.toNat * 2048 + s.env.offX.toNat)
      else if i = 7#4 then 2#32
      else if i = 8#4 then 0#32
      else s.gpuread := by
  split_ifs with h2 h3 h4 h5 h7 h8
  · rw [h2]; exact place_zero_eq_ofNat _
  · rw [h3]; exact place_or_place_eq_ofNat _ _
  · rw [h4]; exact place_or_place_eq_ofNat _ _
  · rw [h5]; exact place_or_place_eq_ofNat _ _
  · rw [h7]; rfl
  · rw [h8]; rfl
  · rw [gpuInfo_eq_none s h2 h3 h4 h5 h7 h8, Option.getD_none]

/-! ### A tick (R511 to R516) -/

/-- The counters field by field: a line ends at `hTiming`, a frame with the line that reaches `vTiming`, and the field
flag turns with the frame of a high interlaced picture. -/
theorem advance_eq (st : Status) (cycles : Nat) (t : Timing) :
    let vc := t.videoCycles + tickIncrement cycles
    let line := decide (vc ≥ hTiming st.videoMode)
    let frame := line && decide (t.scanline + 1 ≥ vTiming st.videoMode)
    advance st cycles t =
      ⟨if line then vc - hTiming st.videoMode else vc,
       if frame then 0 else if line then t.scanline + 1 else t.scanline,
       if frame && st.vInterlace && st.vres then !t.oddField else t.oddField⟩ := by
  intro vc line frame
  by_cases hline : vc ≥ hTiming st.videoMode
  · by_cases hframe : t.scanline + 1 ≥ vTiming st.videoMode
    · simp [advance, frame, line, vc, hline, hframe]
    · simp [advance, frame, line, vc, hline, hframe]
  · simp [advance, frame, line, vc, hline]

end Sys2Proof.Machine

/-- Settles O11: a control word runs the command its number decodes to, and the other numbers decode to none. -/
theorem controlDispatch : Obligations.ControlDispatch := by
  refine ⟨fun s hs t => not_step_of_halted hs t, fun s w rest hs he => ?_⟩
  have runs {i : Instr} (build : buildGp1 w = some i) : step s = exec i { s with events := rest } :=
    stepRunsDecoded.2 s w rest i hs he (decode_gp1_of_build [] build)
  refine ⟨fun ⟨above, other⟩ => ?_, ?_, ?_, ?_, ?_, ?_, ?_, ?_, ?_, ?_, ?_⟩
  · have write : step s = writeControl w { s with events := rest } := step_event hs he (.inl rfl)
    rw [write]
    simp only [writeControl, decode, buildGp1_eq_none above other]
    rfl
  all_goals
    intro (number : (opcodeOf w).toNat = _)
    exact runs (by simp [buildGp1, number, DispEn.ofWord, DmaDir.ofWord, DispStart.ofWord, HRange.ofWord, VRange.ofWord,
      DispMode.ofWord, GetInfo.ofWord])

/-- Settles O22: the reset values are the written ones, and GPUSTAT packs them. -/
theorem resetResult : Obligations.ResetResult := fun s =>
  ⟨_, rfl, rfl, packStatus_reset s.tim.oddField _⟩

/-- Settles O23: each word is read from its number, and a reversed range leaves no count unblanked. -/
theorem controlRegisters : Obligations.ControlRegisters := by
  intro w s
  refine ⟨rfl, ⟨_, rfl, rfl, rfl⟩, fun number => ⟨.ofWord w, ?_, rfl⟩, fun number => ⟨.ofWord w, ?_, rfl⟩,
    fun number => ⟨.ofWord w, ?_, rfl⟩,
    fun number => ⟨.ofWord w, ?_, _, rfl, rfl, fun reversed => hblank_of_reversed reversed⟩,
    fun number => ⟨.ofWord w, ?_, _, rfl, rfl, fun reversed => vblank_of_reversed reversed⟩⟩
  all_goals exact decode_gp1_of_build [] (by simp [buildGp1, number])

/-- Settles O24: the reverse flag decides; without it the fields are the word's, and GPUSTAT and the outputs show
them. -/
theorem displayModeResult : Obligations.DisplayModeResult := by
  intro w s number
  refine ⟨.ofWord w, decode_gp1_of_build [] (by simp [buildGp1, number]),
    fun reverse => exec_dispMode_reverse reverse s, fun plain => ⟨_, exec_dispMode plain s, rfl, ?_⟩⟩
  obtain ⟨hres2, mode⟩ := gpustat_of_exec_dispMode plain (exec_dispMode plain s)
  exact ⟨hres2, mode, fun progressive => bit_gpustat_interlace _ progressive, hresPixels_eq _, rfl, dotDiv_eq _, rfl,
    rfl⟩

/-- Settles O25: the replies as numbers, and a read without a readback returns the latch. -/
theorem getInfoResult : Obligations.GetInfoResult := by
  intro w s number
  refine ⟨.ofWord w, decode_gp1_of_build [] (by simp [buildGp1, number]), _, rfl, ?_, fun hs hx => ?_⟩
  · rw [← gpuInfo_getD]
    rfl
  · simp [readData_noReadback, hs, hx]

/-- Settles O26: the queue is empty already (R206). -/
theorem clearQueueFindsNothing : Obligations.ClearQueueFindsNothing := by
  intro s rest
  change Host.Outcome.next { s with queue := [] } = .next s
  rw [← rest.queueEmpty]

/-- Settles O27: after the drain the tick is `tickCounters`, whose counters are `advance_eq`'s and whose sample reads
them. -/
theorem tickAdvances : Obligations.TickAdvances := by
  refine ⟨fun s hs t => not_step_of_halted hs t, fun s c rest hs he => ?_⟩
  have event : step s = andThen (drain { s with events := rest }) (tickCounters c) := step_event hs he (.inl rfl)
  rw [event]
  congr 1
  funext u
  simp only [tickCounters, sampleOutput, advance_eq, dotDiv_eq]
  rfl

/-- Settles O9: the step looks at `halted` first (R545). -/
theorem haltedHasNoStep : Obligations.HaltedHasNoStep := by
  intro s f hs
  simp only [step, hs]

/-- Settles O16: GPUSTAT is the packed reset word, whatever the free bit; the rest is the written state. -/
theorem powerOn : Obligations.PowerOn := by
  refine ⟨packStatus_reset _ _, ?_⟩
  decide

/-- Settles O58: the canonical forms are `reset_vram_wf` and `reset_mainMem_wf`; no cursor is set and both counters are
zero. -/
theorem invariantsAtPowerOn : Obligations.InvariantsAtPowerOn :=
  ⟨⟨reset_vram_wf, nofun, reset_mainMem_wf⟩,
    { noFault := rfl, queueEmpty := rfl, decoder := rfl, sendBit := rfl, dmaBit := rfl, cursorOut := nofun,
      cycles := by decide, lines := by decide }⟩

end
